-- ==== Sys2Proof/Word.lean ====
section
/-! DEFINITION. The fixed widths of the block: spec/00_scope.md R7 (bit 0 is the least significant bit),
spec/10_state.md (widths of the state elements), spec/30_encoding.md R81, R99, R100 (frame, request, operands). -/

namespace Sys2Proof

/-- One byte on the wire (R54, R57). -/
abbrev Byte := BitVec 8

/-- A 16-bit command frame (R80). -/
abbrev FrameWord := BitVec 16

/-- The packed 41-bit host request `op, cmd, arg` (R99). -/
abbrev ReqWord := BitVec 41

/-- A 4-bit command code (R81, R84). -/
abbrev Code := BitVec 4

/-- The 10-bit payload field of a frame (R81). -/
abbrev Payload := BitVec 10

/-- A raw wiper setting, u10 (R21). -/
abbrev Setting := BitVec 10

/-- A resistance in ohms, u17 (R23). -/
abbrev Ohms := BitVec 17

end Sys2Proof
end

