-- ==== Sys2Proof/Config.lean ====
section
/-! DEFINITION. The configuration of an instance (spec/00_scope.md R5, R6; spec/10_state.md R28) and the free values:
constants with no body, of which nothing can be proved. The numbers that belong to a configuration (its bounds, its
ohms, its address) are in Machine/Params.lean. -/

namespace Sys2Proof

/-- `cfg.RES`: 8 or 10 bits. -/
inductive Resolution where
  | bits8 | bits10
  deriving DecidableEq, Repr, Inhabited

/-- `cfg.RFS_OHMS`: one of the three full scales. -/
inductive FullScale where
  | ohms20000 | ohms50000 | ohms100000
  deriving DecidableEq, Repr, Inhabited

/-- `cfg.BUS_ADDR`: one of the three straps. -/
inductive Strap where
  | grounded | tiedHigh | floating
  deriving DecidableEq, Repr, Inhabited

/-- The three parameters that R6 says must be given at instantiation. -/
structure Part where
  res : Resolution
  fullScale : FullScale
  strap : Strap
  deriving DecidableEq, Repr, Inhabited

/-- A configuration: every row of R6, `MAX_VALUE` and `MIN_VALUE` being functions of `res`
(`Config.maxValue`, `Config.minValue`). The three decision parameters have the defaults of R6. An illegal value of
a source parameter cannot be written down (R28: "a model refuses to instantiate it"). -/
structure Config extends Part where
  nopWritable : Bool := false
  sendStopWritePhase : Bool := true
  sendStopReadPhase : Bool := true
  deriving DecidableEq, Repr, Inhabited

/-- The part an instance is built for. R6: "none: must be given", so it is a free value (log entry 1). -/
opaque Config.part : Part

/-- The transport's answer to a `T.write` that the script does not list (R54, R58; log entry 3). -/
opaque Config.freeAck : Nat → Bool

/-- The transport's answer to a `T.end` that the script does not list (R55, R58; log entry 3). -/
opaque Config.freeStatus : Nat → Byte

/-- The transport's answer to a `T.request` that the script does not list (R56, R58; log entry 3). -/
opaque Config.freeAvailable : Nat → Fin 3

/-- The transport's answer to a `T.read` that the script does not list (R57, R58; log entry 3). -/
opaque Config.freeByte : Nat → Byte

/-- The `value` field of an XREAD response that carries no datum (R101 states none; log entry 4). -/
opaque Config.freeDatum : Nat → BitVec 16

/-- The `value` field of a rejected GETSET (R101 states none; log entry 4). -/
opaque Config.freeRaw : Nat → Setting

/-- The `value` field of a rejected GETRES (R101 states none; log entry 4). -/
opaque Config.freeOhms : Nat → Ohms

end Sys2Proof
end

