-- ==== Sys2Proof/Machine/Params.lean ====
section
/-! DEFINITION. The numbers of a configuration (spec/00_scope.md R6, spec/10_state.md R28) and the instantiation that
refuses an illegal one. -/

namespace Sys2Proof

/-- `cfg.RES` in bits. -/
def Resolution.bits : Resolution → Nat
  | .bits8 => 8
  | .bits10 => 10

/-- `cfg.RFS_OHMS` in ohms. -/
def FullScale.ohms : FullScale → Nat
  | .ohms20000 => 20000
  | .ohms50000 => 50000
  | .ohms100000 => 100000

/-- `cfg.BUS_ADDR` (R64). -/
def Strap.addr : Strap → BitVec 7
  | .grounded => 0x2F
  | .tiedHigh => 0x2C
  | .floating => 0x2E

/-- `cfg.MAX_VALUE`, derived from `cfg.RES` (R6). -/
def Config.maxValue (c : Config) : Nat :=
  match c.res with
  | .bits8 => 255
  | .bits10 => 1023

/-- `cfg.MIN_VALUE`, "always 0" (R6). -/
def Config.minValue (_ : Config) : Nat := 0

/-- `cfg.RFS_OHMS` (R6, R28). -/
def Config.rfsOhms (c : Config) : Nat := c.fullScale.ohms

/-- `cfg.BUS_ADDR` (R6, R28). -/
def Config.busAddr (c : Config) : BitVec 7 := c.strap.addr

/-- The resolution of a number of bits, R28. -/
def Resolution.ofBits (n : Nat) : Option Resolution :=
  if n = 8 then some .bits8
  else if n = 10 then some .bits10
  else none

/-- The full scale of a number of ohms, R28. -/
def FullScale.ofOhms (n : Nat) : Option FullScale :=
  if n = 20000 then some .ohms20000
  else if n = 50000 then some .ohms50000
  else if n = 100000 then some .ohms100000
  else none

/-- The strap of a bus address, R28. -/
def Strap.ofAddr (a : BitVec 7) : Option Strap :=
  if a = 0x2F then some .grounded
  else if a = 0x2C then some .tiedHigh
  else if a = 0x2E then some .floating
  else none

/-- Instantiation from raw parameters: "a model refuses to instantiate" anything but the legal values (R28). -/
def Config.instantiate (resBits rfsOhms : Nat) (busAddr : BitVec 7)
    (nopWritable sendStopWritePhase sendStopReadPhase : Bool) : Option Config :=
  match Resolution.ofBits resBits, FullScale.ofOhms rfsOhms, Strap.ofAddr busAddr with
  | some r, some f, some a =>
    some { res := r, fullScale := f, strap := a, nopWritable := nopWritable,
           sendStopWritePhase := sendStopWritePhase, sendStopReadPhase := sendStopReadPhase }
  | _, _, _ => none

end Sys2Proof
end

