-- ==== Sys2Proof/Machine/Mapping.lean ====
section
/-! DEFINITION. The arithmetic of the value mapper (spec/43_mapper.md R170 to R175), on exact integers. -/

namespace Sys2Proof.Machine

/-- `round_haz(num / den)`: the rational rounded to the nearest integer, halves away from zero (R173). -/
def roundHaz (num : Int) (den : Nat) : Int :=
  if 0 ≤ num then (2 * num + den) / (2 * den)
  else -((2 * -num + den) / (2 * den))

/-- `Clamp`, R170: the comparison is signed and the result is a raw setting. -/
def clamp (cfg : Config) (raw : Int) : Setting :=
  if raw ≤ cfg.minValue then BitVec.ofNat 10 cfg.minValue
  else if cfg.maxValue ≤ raw then BitVec.ofNat 10 cfg.maxValue
  else BitVec.ofInt 10 raw

/-- `ToRes`, R171: the divisor is 1023 for both resolutions (R172). -/
def toRes (cfg : Config) (raw : Setting) : Ohms :=
  BitVec.ofInt 17 (roundHaz (raw.toNat * cfg.rfsOhms) 1023)

/-- `FromRes`, R174: the factor is 1024 (R175). -/
def fromRes (cfg : Config) (target : Int) : Setting :=
  clamp cfg (roundHaz (target * 1024) cfg.rfsOhms)

end Sys2Proof.Machine
end

