-- ==== Sys2Proof/Syntax.lean ====
section
/-! DEFINITION. The command set, the instructions (one constructor per row of spec/opcode_table.json) and the
requests the block accepts. -/

namespace Sys2Proof

/-- The ten wire commands (R84). -/
inductive Command where
  | nop | rdacWrite | rdacRead | tpWrite | rdacRefresh
  | tpWiperRead | tpLastUsed | controlWrite | controlRead | shutdown
  deriving DecidableEq, Repr

/-- The rows of spec/opcode_table.json. The ten `FRAME16` rows carry the frame's 10-bit payload field (R81); the
seventeen `REQ` rows carry the operands that R100 reads from the request's `cmd` and `arg` fields. -/
inductive Instr where
  /-- NOP, R120. -/
  | nop (p : Payload)
  /-- RDAC_WRITE, R121. -/
  | rdacWrite (p : Payload)
  /-- RDAC_READ, R122. -/
  | rdacRead (p : Payload)
  /-- TP_WRITE, R123. -/
  | tpWrite (p : Payload)
  /-- RDAC_REFRESH, R124. -/
  | rdacRefresh (p : Payload)
  /-- TP_WIPER_READ, R125. -/
  | tpWiperRead (p : Payload)
  /-- TP_LAST_USED, R126. -/
  | tpLastUsed (p : Payload)
  /-- CONTROL_WRITE, R127. -/
  | controlWrite (p : Payload)
  /-- CONTROL_READ, R128. -/
  | controlRead (p : Payload)
  /-- SHUTDOWN, R129. -/
  | shutdown (p : Payload)
  /-- ENCODE `cmd`, `payload`, R110. -/
  | encode (cmd : Code) (payload : BitVec 16)
  /-- DECODE `word`, R112. -/
  | decode (word : BitVec 16)
  /-- XWRITE `cmd`, `payload`, R140. -/
  | xwrite (cmd : Code) (payload : BitVec 16)
  /-- XREAD `cmd`, `payload`, R148. -/
  | xread (cmd : Code) (payload : BitVec 16)
  /-- CLAMP `raw`, an i32, R170. -/
  | clamp (raw : BitVec 32)
  /-- TORES `raw`, a u10, R171. -/
  | tores (raw : BitVec 10)
  /-- FROMRES `target`, an i32, R174. -/
  | fromres (target : BitVec 32)
  /-- INC, R176. -/
  | inc
  /-- DEC, R177. -/
  | dec
  /-- VERIFY `control`, a u8, R190. -/
  | verify (control : BitVec 8)
  /-- BEGIN, R200. -/
  | beginOp
  /-- SETSET `v`, an i32, R201. -/
  | setset (v : BitVec 32)
  /-- GETSET, R202. -/
  | getset
  /-- SETRES `t`, an i32, R203. -/
  | setres (t : BitVec 32)
  /-- GETRES, R204. -/
  | getres
  /-- SHUTDN `p`, a u16, R205. -/
  | shutdn (p : BitVec 16)
  /-- ENWIPER, R206. -/
  | enwiper
  deriving DecidableEq, Repr

/-- What may be presented on the request port: a packed request of R99, or a bare `FRAME16` word of R81 (the model's
own extension, so that the ten frame rows of the opcode table can be run; log entry 2). -/
inductive Request where
  | frame (w : FrameWord)
  | req (w : ReqWord)
  deriving DecidableEq, Repr

end Sys2Proof
end

