-- ==== Sys2Proof/Decode.lean ====
section
/-! DEFINITION. The decoder and the encoder of the two formats of spec/30_encoding.md: `FRAME16` (R81, R84) and `REQ`
(R98, R99, R100), and the command codes. -/

namespace Sys2Proof

/-- `code(c)`, R84. -/
def Command.code : Command → Code
  | .nop => 0x0
  | .rdacWrite => 0x1
  | .rdacRead => 0x2
  | .tpWrite => 0x3
  | .rdacRefresh => 0x4
  | .tpWiperRead => 0x5
  | .tpLastUsed => 0x6
  | .controlWrite => 0x7
  | .controlRead => 0x8
  | .shutdown => 0x9

/-- The command a code names; codes 0xA to 0xF name none (R90). -/
def Command.ofCode (c : Code) : Option Command :=
  match c.toNat with
  | 0 => some .nop
  | 1 => some .rdacWrite
  | 2 => some .rdacRead
  | 3 => some .tpWrite
  | 4 => some .rdacRefresh
  | 5 => some .tpWiperRead
  | 6 => some .tpLastUsed
  | 7 => some .controlWrite
  | 8 => some .controlRead
  | 9 => some .shutdown
  | _ => none

/-- The wire command with its payload field. -/
def Command.instr (p : Payload) : Command → Instr
  | .nop => .nop p
  | .rdacWrite => .rdacWrite p
  | .rdacRead => .rdacRead p
  | .tpWrite => .tpWrite p
  | .rdacRefresh => .rdacRefresh p
  | .tpWiperRead => .tpWiperRead p
  | .tpLastUsed => .tpLastUsed p
  | .controlWrite => .controlWrite p
  | .controlRead => .controlRead p
  | .shutdown => .shutdown p

/-- Why a request names no instruction. -/
inductive DecodeError where
  /-- An `op` value 0x11 to 0x1F (R103). -/
  | reservedOp (op : BitVec 5)
  /-- A frame whose command code is 0xA to 0xF (R90). -/
  | reservedCode (code : Code)
  /-- A frame whose bits 15:14 are not 0: no frame of the block (R80). -/
  | topBits (bits : BitVec 2)
  deriving DecidableEq, Repr

/-- Frame bits 15:14, R81 `zero`. -/
def frameTop (w : FrameWord) : BitVec 2 := w.extractLsb' 14 2

/-- Frame bits 13:10, R81 `cmd`. -/
def frameCode (w : FrameWord) : Code := w.extractLsb' 10 4

/-- Frame bits 9:0, R81 `payload`. -/
def framePayload (w : FrameWord) : Payload := w.extractLsb' 0 10

/-- Request bits 40:36, R99 `op`. -/
def reqOp (w : ReqWord) : BitVec 5 := w.extractLsb' 36 5

/-- Request bits 35:32, R99 `cmd`. -/
def reqCmd (w : ReqWord) : Code := w.extractLsb' 32 4

/-- Request bits 31:0, R99 `arg`. -/
def reqArg (w : ReqWord) : BitVec 32 := w.extractLsb' 0 32

/-- Request bits 15:0, `arg[15:0]` of R100. -/
def reqArg16 (w : ReqWord) : BitVec 16 := w.extractLsb' 0 16

/-- Request bits 9:0, `arg[9:0]` of R100. -/
def reqArg10 (w : ReqWord) : BitVec 10 := w.extractLsb' 0 10

/-- Request bits 7:0, `arg[7:0]` of R100. -/
def reqArg8 (w : ReqWord) : BitVec 8 := w.extractLsb' 0 8

/-- The `FRAME16` rows: bits 15:14 are 0 and bits 13:10 select the command (R81, R84). -/
def decodeFrame (w : FrameWord) : Except DecodeError Instr :=
  if frameTop w ≠ 0 then .error (.topBits (frameTop w))
  else
    match Command.ofCode (frameCode w) with
    | some c => .ok (c.instr (framePayload w))
    | none => .error (.reservedCode (frameCode w))

/-- The `REQ` rows: bits 40:36 select the operation (R98), R100 reads its operands; other bits are ignored (R99). -/
def decodeReq (w : ReqWord) : Except DecodeError Instr :=
  match (reqOp w).toNat with
  | 0x00 => .ok (.encode (reqCmd w) (reqArg16 w))
  | 0x01 => .ok (.decode (reqArg16 w))
  | 0x02 => .ok (.xwrite (reqCmd w) (reqArg16 w))
  | 0x03 => .ok (.xread (reqCmd w) (reqArg16 w))
  | 0x04 => .ok (.clamp (reqArg w))
  | 0x05 => .ok (.tores (reqArg10 w))
  | 0x06 => .ok (.fromres (reqArg w))
  | 0x07 => .ok .inc
  | 0x08 => .ok .dec
  | 0x09 => .ok (.verify (reqArg8 w))
  | 0x0A => .ok .beginOp
  | 0x0B => .ok (.setset (reqArg w))
  | 0x0C => .ok .getset
  | 0x0D => .ok (.setres (reqArg w))
  | 0x0E => .ok .getres
  | 0x0F => .ok (.shutdn (reqArg16 w))
  | 0x10 => .ok .enwiper
  | _ => .error (.reservedOp (reqOp w))

/-- The decoder: total, and every refusal has a name. -/
def decode : Request → Except DecodeError Instr
  | .frame w => decodeFrame w
  | .req w => decodeReq w

/-- A frame from its fields, R81 with `zero` = 0. -/
def packFrame (c : Command) (p : Payload) : FrameWord := 0#2 ++ c.code ++ p

/-- A request from its fields, R99. -/
def packReq (op : BitVec 5) (cmd : Code) (arg : BitVec 32) : ReqWord := op ++ cmd ++ arg

/-- The encoder: the request word of every instruction, with 0 in every ignored field. -/
def encode : Instr → Request
  | .nop p => .frame (packFrame .nop p)
  | .rdacWrite p => .frame (packFrame .rdacWrite p)
  | .rdacRead p => .frame (packFrame .rdacRead p)
  | .tpWrite p => .frame (packFrame .tpWrite p)
  | .rdacRefresh p => .frame (packFrame .rdacRefresh p)
  | .tpWiperRead p => .frame (packFrame .tpWiperRead p)
  | .tpLastUsed p => .frame (packFrame .tpLastUsed p)
  | .controlWrite p => .frame (packFrame .controlWrite p)
  | .controlRead p => .frame (packFrame .controlRead p)
  | .shutdown p => .frame (packFrame .shutdown p)
  | .encode cmd payload => .req (packReq 0x00 cmd (payload.setWidth 32))
  | .decode word => .req (packReq 0x01 0 (word.setWidth 32))
  | .xwrite cmd payload => .req (packReq 0x02 cmd (payload.setWidth 32))
  | .xread cmd payload => .req (packReq 0x03 cmd (payload.setWidth 32))
  | .clamp raw => .req (packReq 0x04 0 raw)
  | .tores raw => .req (packReq 0x05 0 (raw.setWidth 32))
  | .fromres target => .req (packReq 0x06 0 target)
  | .inc => .req (packReq 0x07 0 0)
  | .dec => .req (packReq 0x08 0 0)
  | .verify control => .req (packReq 0x09 0 (control.setWidth 32))
  | .beginOp => .req (packReq 0x0A 0 0)
  | .setset v => .req (packReq 0x0B 0 v)
  | .getset => .req (packReq 0x0C 0 0)
  | .setres t => .req (packReq 0x0D 0 t)
  | .getres => .req (packReq 0x0E 0 0)
  | .shutdn p => .req (packReq 0x0F 0 (p.setWidth 32))
  | .enwiper => .req (packReq 0x10 0 0)

/-- A word numbered as spec/opcode_table.json numbers it, as a request: rows of at most 16 bits are `FRAME16`, wider
ones (41 bits, 48 in whole bytes) are `REQ`. -/
def tableRequest (nbits w : Nat) : Request :=
  if nbits ≤ 16 then .frame (BitVec.ofNat 16 w) else .req (BitVec.ofNat 41 w)

/-- Whether the word fits the row's format, so that no bit of it is dropped. -/
def tableWordFits (nbits w : Nat) : Bool :=
  if nbits ≤ 16 then decide (w < 2 ^ 16) else decide (w < 2 ^ 41)

/-- The instruction the decoder reads from a word of the opcode table; none where it refuses. -/
def decodeTableWord (nbits w : Nat) : Option Instr :=
  if tableWordFits nbits w then
    match decode (tableRequest nbits w) with
    | .ok i => some i
    | .error _ => none
  else none

end Sys2Proof
end

