-- ==== Sys2Proof/Machine/Flags.lean ====
section
/-! DEFINITION. The flags of a response (spec/10_state.md R27, spec/60_exceptions.md R221 to R227) and what each
transport anomaly adds to a count (R225). -/

namespace Sys2Proof.Machine

/-- `rej_cmd` of ENCODE: the code names no command (R221, R110). -/
def codeUnknown (code : Code) : Bool := decide (9 < code.toNat)

/-- `rej_data`: a payload above 0x3FF, regardless of the command (R111, R222). -/
def payloadOverflows (payload : BitVec 16) : Bool := decide (0x3FF < payload.toNat)

/-- `rej_data` of TP_WIPER_READ: a location above its 6 bits (R149, R222). -/
def locationOverflows (payload : BitVec 16) : Bool := decide (0x3F < payload.toNat)

/-- `range_flag`: a control value above 7 (R191). -/
def rangeFlag (control : BitVec 8) : Bool := decide (7 < control.toNat)

/-- `mismatch`: all eight bits of the datum's low byte against the 3-bit value written (R194). -/
def controlMismatch (datum : BitVec 16) (written : BitVec 8) : Bool := datum.extractLsb' 0 8 != written

/-- What one `T.write` adds to the count (R144 (a)). -/
def nackCount (ack : Bool) : Nat := if ack then 0 else 1

/-- What one `T.end` adds to the count, whatever the non-zero status (R144 (b)). -/
def statusCount (status : Byte) : Nat := if status = 0 then 0 else 1

end Sys2Proof.Machine
end

