-- ==== Sys2Proof/Machine/Operands.lean ====
section
/-! DEFINITION. The frame a command is sent as (spec/30_encoding.md R82, R83, R87), the direction classes (R85, R86) and
the admission and payload rules of the executor (spec/42_executor.md R141, R142, R148, R149). -/

namespace Sys2Proof.Machine

/-- `frame <- ((cmd << 10) | (payload & 0x3FF)) & 0xFFFF`, R82 and R110. -/
def encodeFrame (code : Code) (payload : BitVec 16) : FrameWord :=
  (code.setWidth 16 <<< 10) ||| (payload &&& 0x3FF)

/-- The first byte on the wire, `frame[15:8]` (R60, R83). -/
def frameMsb (f : FrameWord) : Byte := f.extractLsb' 8 8

/-- The second byte on the wire, `frame[7:0]` (R60, R83). -/
def frameLsb (f : FrameWord) : Byte := f.extractLsb' 0 8

/-- `(MSB << 8) | LSB`, the datum of two received bytes (R146, R60). -/
def datumOf (msb lsb : Byte) : BitVec 16 := (msb.setWidth 16 <<< 8) ||| lsb.setWidth 16

/-- The payload field of a received datum, bits 9:0 (R89, R152). -/
def datumPayload (d : BitVec 16) : Payload := d.extractLsb' 0 10

/-- The direction classes of R85, and NOP's lack of one (R86). -/
inductive Direction where
  | none | writePayload | writeCmdOnly | read
  deriving DecidableEq, Repr

/-- R84's last column. -/
def direction : Command → Direction
  | .nop => .none
  | .rdacWrite => .writePayload
  | .rdacRead => .read
  | .tpWrite => .writeCmdOnly
  | .rdacRefresh => .writeCmdOnly
  | .tpWiperRead => .read
  | .tpLastUsed => .read
  | .controlWrite => .writePayload
  | .controlRead => .read
  | .shutdown => .writePayload

/-- `Writable(cmd)`, R141: the two writing classes, and NOP when the configuration says so (R86). -/
def writable (cfg : Config) (code : Code) : Bool :=
  match Command.ofCode code with
  | some c =>
    match direction c with
    | .none => cfg.nopWritable
    | .writePayload => true
    | .writeCmdOnly => true
    | .read => false
  | none => false

/-- `Readable(cmd)`, R149: "the four readable opcodes". -/
def readable (code : Code) : Bool :=
  match Command.ofCode code with
  | some c => decide (direction c = .read)
  | none => false

/-- The payload XWRITE sends: the host's for a `W_PAYLOAD` command, else 0 (R142). -/
def writePayload (code : Code) (payload : BitVec 16) : BitVec 16 :=
  match Command.ofCode code with
  | some c => if direction c = .writePayload then payload &&& 0x3FF else 0
  | none => 0

/-- The payload XREAD sends: the 6-bit location of TP_WIPER_READ, else 0 (R148). -/
def readPayload (code : Code) (payload : BitVec 16) : BitVec 16 :=
  if code = Command.tpWiperRead.code then payload &&& 0x3F else 0

/-- `rej_data` of XREAD, R148 and R149. -/
def readDataRejected (code : Code) (payload : BitVec 16) : Bool :=
  payloadOverflows payload || (decide (code = Command.tpWiperRead.code) && locationOverflows payload)

/-- `control & 0x7`, R190. -/
def controlBits (control : BitVec 8) : BitVec 8 := control &&& 0x7

/-- CONTROL_WRITE's "wiper-write-enable" value, 0x02 (R29, R200, R206). -/
def wiperWriteEnable : BitVec 16 := 0x02

end Sys2Proof.Machine
end

