-- ==== Sys2Proof/Machine/State.lean ====
section
/-! DEFINITION. The machine's state as plain data (spec/10_state.md), the transport's event history (spec/20_memory.md
R66), the response record (spec/30_encoding.md R101) and the reasons a step can stop. -/

namespace Sys2Proof.Machine

/-- `st.vstate`, R25. -/
inductive VState where
  | idle | writeIssued | readBack | done | error
  deriving DecidableEq, Repr

/-- One transport call with its arguments and its return value: an entry of the trace (R66). -/
inductive Event where
  /-- `T.begin(address)`, R53. -/
  | beginTx (addr : BitVec 7)
  /-- `T.write(value) -> acknowledged`, R54. -/
  | writeByte (value : Byte) (ack : Bool)
  /-- `T.end(sendStop) -> status`, R55. -/
  | endTx (sendStop : Bool) (status : Byte)
  /-- `T.request(address, byteCount, sendStop) -> available`, R56; the domain 0 to 2 is R58's. -/
  | requestBytes (addr : BitVec 7) (byteCount : Nat) (sendStop : Bool) (available : Fin 3)
  /-- `T.read() -> value`, R57. -/
  | readByte (value : Byte)
  deriving DecidableEq, Repr

/-- The `kind` field of a response; its code 3 is never produced, so it has no constructor (R101). -/
inductive Kind where
  | ok | failed | rejected
  deriving DecidableEq, Repr

/-- The response record `RSP`, R101. -/
structure Response where
  kind : Kind
  value : BitVec 17
  count : BitVec 4
  rejCmd : Bool
  rejData : Bool
  rejState : Bool
  rangeFlag : Bool
  mismatch : Bool
  refreshCount : BitVec 3
  deriving DecidableEq, Repr

/-- The oracle of R50: the answers the transport has still to give, per kind of call, in call order (R104's oracle
script), and how many answers beyond the script have been drawn (`drawn`; log entry 3). -/
structure Oracle where
  acks : List Bool
  statuses : List Byte
  counts : List (Fin 3)
  bytes : List Byte
  drawn : Nat
  deriving DecidableEq, Repr

/-- The machine's state. The first nine fields are R35's elements and the configuration; `rsp` is the response port
and `trace` the event history (R66); `requests`, `oracle` and `freeValues` are the model's own view of the host and the
transport (log entries 3, 4, 5). -/
structure State where
  /-- The configuration the instance was given; no operation changes it (R28, R6). -/
  cfg : Config
  /-- `st.setting`, R21. -/
  setting : Setting
  /-- `st.setting_valid`, R22. -/
  settingValid : Bool
  /-- `st.resistance`, R23. -/
  resistance : Ohms
  /-- `st.vstate`, R25. -/
  vstate : VState
  /-- `st.acc`, R26. -/
  acc : BitVec 4
  /-- `st.frame`, R26. -/
  frame : FrameWord
  /-- `st.rx_msb`, R26. -/
  rxMsb : Byte
  /-- `st.rx_lsb`, R26. -/
  rxLsb : Byte
  /-- The response port: the last response produced, none before the first (R101, R27, R250). -/
  rsp : Option Response
  /-- Every transport call made since reset, oldest first (R66). -/
  trace : List Event
  /-- The model's own: the requests the host has yet to present, next first (R104, R256; log entry 5). -/
  requests : List Request
  /-- The model's own: the transport behind the port (R50; log entry 3). -/
  oracle : Oracle
  /-- The model's own: how many unstated response values have been drawn (log entry 4). -/
  freeValues : Nat
  deriving DecidableEq, Repr

/-- Why the machine stops with a fault: there is no such reason. "The block has no traps" and every failure is a
returned response (R220, R234), so no constructor is needed and no step faults (safe). -/
inductive Fault where
  deriving DecidableEq, Repr

/-- Why a step has no meaning. -/
inductive Refusal where
  /-- An instruction without a meaning; no arm of `exec` uses it (safe: the run stops). -/
  | notModelled (mnemonic : String)
  /-- Raised by `step` alone, for a bare 16-bit word on the request port whose bits 15:14 are not 0: it is no frame
  (R80) and no request (R99), so the spec gives it no meaning (safe: the run stops; log entry 2). -/
  | notAFrame (bits : BitVec 2)
  deriving DecidableEq, Repr

/-- The oracle of which nothing is known: every answer is a free value (R50, U2, U3, U10). -/
def Oracle.unknown : Oracle := ⟨[], [], [], [], 0⟩

/-- The machine right after reset (R35, R251): the cache invalid, the verifier `Idle`, the accumulator 0, no transport
call made, no response produced, no request presented. The elements to which R251 gives no value hold 0 (log entry 6).
The part is as instantiated (log entry 1), the decision parameters at R6's defaults. -/
def State.reset : State where
  cfg := { Config.part with }
  setting := 0
  settingValid := false
  resistance := 0
  vstate := .idle
  acc := 0
  frame := 0
  rxMsb := 0
  rxLsb := 0
  rsp := none
  trace := []
  requests := []
  oracle := Oracle.unknown
  freeValues := 0

end Sys2Proof.Machine
end

