-- ==== Sys2Proof/Machine/Ops.lean ====
section
/-! DEFINITION. The shared operations: updates of the state, the five transport calls (spec/20_memory.md), the
executor's procedures (spec/42_executor.md) and the responses (spec/30_encoding.md R101). The block has no traps: what
stands in the place of taking an exception is the `Rejected` response, built here once (`Response.rejected`, R220). -/

namespace Sys2Proof.Machine

/-! ### Updates of one piece of state -/

/-- Writes `st.frame`. -/
def State.setFrame (s : State) (f : FrameWord) : State := { s with frame := f }

/-- Writes `st.acc`. -/
def State.setAcc (s : State) (n : BitVec 4) : State := { s with acc := n }

/-- Writes `st.rx_msb`. -/
def State.setRxMsb (s : State) (b : Byte) : State := { s with rxMsb := b }

/-- Writes `st.rx_lsb`. -/
def State.setRxLsb (s : State) (b : Byte) : State := { s with rxLsb := b }

/-- Writes `st.vstate`. -/
def State.setVState (s : State) (v : VState) : State := { s with vstate := v }

/-- Writes the cache: the setting, its valid bit and the derived resistance together (R23). -/
def State.setCache (s : State) (v : Setting) (r : Ohms) : State :=
  { s with setting := v, settingValid := true, resistance := r }

/-- Replaces what the transport has still to answer. -/
def State.setOracle (s : State) (o : Oracle) : State := { s with oracle := o }

/-- Records a transport call that has returned (R66). -/
def State.logCall (s : State) (e : Event) : State := { s with trace := s.trace ++ [e] }

/-- Produces a response; the one before it is lost (R27). -/
def State.respond (s : State) (r : Response) : State := { s with rsp := some r }

/-- Moves past an unstated response value that has been drawn. -/
def State.nextFree (s : State) : State := { s with freeValues := s.freeValues + 1 }

/-- Replaces the requests the host has yet to present. -/
def State.setRequests (s : State) (rs : List Request) : State := { s with requests := rs }

/-- `SetSetting(v)`, R152: clamped, marked valid, and the resistance derived from it. -/
def setSetting (v : Int) (s : State) : State :=
  s.setCache (clamp s.cfg v) (toRes s.cfg (clamp s.cfg v))

/-! ### The transport's answers (R50, R58) -/

/-- The answer to the next `T.write`. -/
def Oracle.nextAck (o : Oracle) : Bool × Oracle :=
  match o.acks with
  | a :: rest => (a, { o with acks := rest })
  | [] => (Config.freeAck o.drawn, { o with drawn := o.drawn + 1 })

/-- The answer to the next `T.end`. -/
def Oracle.nextStatus (o : Oracle) : Byte × Oracle :=
  match o.statuses with
  | b :: rest => (b, { o with statuses := rest })
  | [] => (Config.freeStatus o.drawn, { o with drawn := o.drawn + 1 })

/-- The answer to the next `T.request`. -/
def Oracle.nextCount (o : Oracle) : Fin 3 × Oracle :=
  match o.counts with
  | k :: rest => (k, { o with counts := rest })
  | [] => (Config.freeAvailable o.drawn, { o with drawn := o.drawn + 1 })

/-- The answer to the next `T.read`. -/
def Oracle.nextByte (o : Oracle) : Byte × Oracle :=
  match o.bytes with
  | b :: rest => (b, { o with bytes := rest })
  | [] => (Config.freeByte o.drawn, { o with drawn := o.drawn + 1 })

/-! ### The five transport calls (R51, R53 to R57) -/

/-- `T.begin(cfg.BUS_ADDR)`, R53. -/
def transportBegin (s : State) : State := s.logCall (.beginTx s.cfg.busAddr)

/-- `T.write(b)`, R54. -/
def transportWrite (b : Byte) (s : State) : Bool × State :=
  let a := s.oracle.nextAck
  (a.1, (s.setOracle a.2).logCall (.writeByte b a.1))

/-- `T.end(cfg.SEND_STOP_WRITE_PHASE)`, R55 and R59. -/
def transportEnd (s : State) : Byte × State :=
  let a := s.oracle.nextStatus
  (a.1, (s.setOracle a.2).logCall (.endTx s.cfg.sendStopWritePhase a.1))

/-- `T.request(cfg.BUS_ADDR, 2, cfg.SEND_STOP_READ_PHASE)`, R56 and R59. -/
def transportRequest (s : State) : Fin 3 × State :=
  let a := s.oracle.nextCount
  (a.1, (s.setOracle a.2).logCall (.requestBytes s.cfg.busAddr 2 s.cfg.sendStopReadPhase a.1))

/-- `T.read()`, R57; made only for a byte that the last `T.request` counted (`readPhase`). -/
def transportRead (s : State) : Byte × State :=
  let a := s.oracle.nextByte
  (a.1, (s.setOracle a.2).logCall (.readByte a.1))

/-! ### The two phases and the read transaction -/

/-- `WritePhase(frame)`, R143: always the same four calls (R151), and R144's count. -/
def writePhase (f : FrameWord) (s : State) : Nat × State :=
  let w1 := transportWrite (frameMsb f) (transportBegin (s.setFrame f))
  let w2 := transportWrite (frameLsb f) w1.2
  let e := transportEnd w2.2
  (nackCount w1.1 + nackCount w2.1 + statusCount e.1, e.2)

/-- What a read phase gives: the datum of two bytes, or the shortfall of 1 or 2 (R146). -/
inductive ReadPhaseResult where
  | datum (d : BitVec 16)
  | short (missing : Nat)
  deriving DecidableEq, Repr

/-- The count `n` of R146. -/
def ReadPhaseResult.errors : ReadPhaseResult → Nat
  | .datum _ => 0
  | .short missing => missing

/-- `ReadPhase()`, R146: `T.read` exactly as often as bytes are available (R147). -/
def readPhase (s : State) : ReadPhaseResult × State :=
  let q := transportRequest s
  match q.1 with
  | 0 => (.short 2, q.2)
  | 1 =>
    let b := transportRead q.2
    (.short 1, b.2.setRxMsb b.1)
  | 2 =>
    let b1 := transportRead q.2
    let b2 := transportRead (b1.2.setRxMsb b1.1)
    let t := b2.2.setRxLsb b2.1
    (.datum (datumOf t.rxMsb t.rxLsb), t)

/-- What a read transaction gives, R155. -/
inductive TxnResult where
  | data (d : BitVec 16)
  | failed (n : BitVec 4)
  deriving DecidableEq, Repr

/-- `ReadTxn(c, p)`, R155: the write phase of the command, then a read phase, one count over both. -/
def readTxn (code : Code) (p : BitVec 16) (s : State) : TxnResult × State :=
  let w := writePhase (encodeFrame code p) (s.setAcc 0)
  let s1 := w.2.setAcc (w.2.acc + BitVec.ofNat 4 w.1)
  let r := readPhase s1
  let s2 := r.2.setAcc (r.2.acc + BitVec.ofNat 4 r.1.errors)
  match r.1 with
  | .datum d => (if s2.acc = 0 then .data d else .failed s2.acc, s2)
  | .short _ => (.failed s2.acc, s2)

/-- `RefreshAfterWrite(p)`, R152: the requested value first, then the read-back if there is one; the answer is
`refresh_count`. -/
def refreshAfterWrite (p : BitVec 16) (s : State) : BitVec 3 × State :=
  let r := readTxn Command.rdacRead.code 0 (setSetting p.toNat s)
  match r.1 with
  | .data d => (0, setSetting (datumPayload d).toNat r.2)
  | .failed n => (n.setWidth 3, r.2)

/-! ### XWRITE and XREAD as sub-operations -/

/-- The result forms of XWRITE (R150). -/
inductive WriteResult where
  | ok (refreshCount : BitVec 3)
  | failed (n : BitVec 4)
  | rejected (rejCmd rejData : Bool)
  deriving DecidableEq, Repr

/-- XWRITE, R140: admission (R141), the frame (R142), one write phase, and the refresh of a clean RDAC_WRITE (R152). -/
def xwrite (code : Code) (payload : BitVec 16) (s : State) : WriteResult × State :=
  let rejCmd := !writable s.cfg code
  let rejData := payloadOverflows payload
  if rejCmd || rejData then (.rejected rejCmd rejData, s)
  else
    let p := writePayload code payload
    let w := writePhase (encodeFrame code p) s
    let s1 := w.2.setAcc (BitVec.ofNat 4 w.1)
    if s1.acc ≠ 0 then (.failed s1.acc, s1)
    else if code = Command.rdacWrite.code then
      let r := refreshAfterWrite p s1
      (.ok r.1, r.2)
    else (.ok 0, s1)

/-- The result forms of XREAD (R150). -/
inductive ReadResult where
  | ok (d : BitVec 16)
  | failed (n : BitVec 4)
  | rejected (rejCmd rejData : Bool)
  deriving DecidableEq, Repr

/-- XREAD, R148: admission (R149) and one read transaction (R155). -/
def xread (code : Code) (payload : BitVec 16) (s : State) : ReadResult × State :=
  let rejCmd := !readable code
  let rejData := readDataRejected code payload
  if rejCmd || rejData then (.rejected rejCmd rejData, s)
  else
    let r := readTxn code (readPayload code payload) s
    match r.1 with
    | .data d => (.ok d, r.2)
    | .failed n => (.failed n, r.2)

/-! ### Responses (R101) -/

/-- `Ok(v)` with nothing else set. -/
def Response.ok (v : BitVec 17) : Response where
  kind := .ok
  value := v
  count := 0
  rejCmd := false
  rejData := false
  rejState := false
  rangeFlag := false
  mismatch := false
  refreshCount := 0

/-- `Failed(n)`, the `value` being `v`. -/
def Response.failed (n : BitVec 4) (v : BitVec 17) : Response :=
  { Response.ok v with kind := .failed, count := n }

/-- `Rejected(flags)`, R220: the caller error of every operation. -/
def Response.rejected (rejCmd rejData rejState : Bool) (v : BitVec 17) : Response :=
  { Response.ok v with kind := .rejected, rejCmd := rejCmd, rejData := rejData, rejState := rejState }

/-- The signed-integer view of an XREAD response, R102. -/
def Response.legacy (r : Response) : Int :=
  match r.kind with
  | .ok => r.value.toNat
  | .failed => -r.count.toNat
  | .rejected => -100

/-- The response of XWRITE and of what is composed from it; its `value` is 0 (R101 "Others: 0"). -/
def WriteResult.response : WriteResult → Response
  | .ok k => { Response.ok 0 with refreshCount := k }
  | .failed n => Response.failed n 0
  | .rejected rc rd => Response.rejected rc rd false 0

/-- The response of XREAD: the datum when there is one; without one R101 states no `value`, so it is `v`. -/
def ReadResult.response (v : BitVec 16) : ReadResult → Response
  | .ok d => Response.ok (d.setWidth 17)
  | .failed n => Response.failed n (v.setWidth 17)
  | .rejected rc rd => Response.rejected rc rd false (v.setWidth 17)

/-- Ends an operation with the result of XWRITE. -/
def respondWrite (r : WriteResult × State) : State := r.2.respond r.1.response

/-- Ends an operation with the result of XREAD; where it carries no datum a free value is drawn (log entry 4). -/
def respondRead (r : ReadResult × State) : State :=
  match r.1 with
  | .ok d => r.2.respond (Response.ok (d.setWidth 17))
  | res => (r.2.respond (res.response (Config.freeDatum r.2.freeValues))).nextFree

/-- The admission test of the operations that read the cache: `rej_state` while nothing is cached (R224). -/
def stateRejected (s : State) : Bool := !s.settingValid

end Sys2Proof.Machine
end

