-- ==== Sys2Proof/Machine/Codec.lean ====
section
/-! DEFINITION. The command frame codec: ENCODE and DECODE (spec/40_codec.md). -/

namespace Sys2Proof.Machine

/-- ENCODE, R110: a rejected response still carries the masked frame, for diagnosis. -/
def execEncode (cmd : Code) (payload : BitVec 16) (s : State) : Host.Outcome State Fault Refusal :=
  let rejCmd := codeUnknown cmd
  let rejData := payloadOverflows payload
  let frame := (encodeFrame cmd payload).setWidth 17
  .next (s.respond (if rejCmd || rejData then Response.rejected rejCmd rejData false frame else Response.ok frame))

/-- The value of a DECODE response, `{known, code[3:0], payload[9:0]}` (R101, R112). -/
def decodeValue (word : BitVec 16) : BitVec 17 :=
  (BitVec.ofBool (!codeUnknown (frameCode word)) ++ frameCode word ++ framePayload word : BitVec 15).setWidth 17

/-- DECODE, R112: total; bits 15:14 of the word are ignored. -/
def execDecode (word : BitVec 16) (s : State) : Host.Outcome State Fault Refusal :=
  .next (s.respond (Response.ok (decodeValue word)))

end Sys2Proof.Machine
end

