-- ==== Sys2Proof/Machine/Executor.lean ====
section
/-! DEFINITION. The transaction executor's host operations: XWRITE and XREAD (spec/42_executor.md). -/

namespace Sys2Proof.Machine

/-- XWRITE, R140. -/
def execXwrite (cmd : Code) (payload : BitVec 16) (s : State) : Host.Outcome State Fault Refusal :=
  .next (respondWrite (xwrite cmd payload s))

/-- XREAD, R148. -/
def execXread (cmd : Code) (payload : BitVec 16) (s : State) : Host.Outcome State Fault Refusal :=
  .next (respondRead (xread cmd payload s))

end Sys2Proof.Machine
end

