-- ==== Sys2Proof/Machine/Facade.lean ====
section
/-! DEFINITION. The composite operations of the device facade (spec/45_facade.md). -/

namespace Sys2Proof.Machine

/-- The count of a sub-operation, `n1` and `n2` of R200. -/
def WriteResult.errors : WriteResult → BitVec 4
  | .failed n => n
  | _ => 0

/-- The follow-up read's count, `rf` of R200. -/
def WriteResult.refresh : WriteResult → BitVec 3
  | .ok k => k
  | _ => 0

/-- BEGIN, R200: the cache at the maximum, the unlock, the RDAC_WRITE of the maximum; the counts are summed. -/
def execBegin (s : State) : Host.Outcome State Fault Refusal :=
  let s0 := setSetting s.cfg.maxValue s
  let r1 := xwrite Command.controlWrite.code wiperWriteEnable s0
  let r2 := xwrite Command.rdacWrite.code (BitVec.ofNat 16 s.cfg.maxValue) r1.2
  let t := r2.2.setAcc (r1.1.errors + r2.1.errors)
  let base := if t.acc = 0 then Response.ok 0 else Response.failed t.acc 0
  .next (t.respond { base with refreshCount := r2.1.refresh })

/-- SETSET, R201: a write of the clamped value. -/
def execSetset (v : BitVec 32) (s : State) : Host.Outcome State Fault Refusal :=
  .next (respondWrite (xwrite Command.rdacWrite.code ((clamp s.cfg v.toInt).setWidth 16) s))

/-- GETSET, R202: the cached setting; while there is none, `Rejected` with a free `value` (log entry 4). -/
def execGetset (s : State) : Host.Outcome State Fault Refusal :=
  .next (if stateRejected s then
      (s.respond (Response.rejected false false true ((Config.freeRaw s.freeValues).setWidth 17))).nextFree
    else s.respond (Response.ok (s.setting.setWidth 17)))

/-- SETRES, R203: a write of the setting of the target resistance. -/
def execSetres (t : BitVec 32) (s : State) : Host.Outcome State Fault Refusal :=
  .next (respondWrite (xwrite Command.rdacWrite.code ((fromRes s.cfg t.toInt).setWidth 16) s))

/-- GETRES, R204: the cached resistance; while there is none, `Rejected` with a free `value` (log entry 4). -/
def execGetres (s : State) : Host.Outcome State Fault Refusal :=
  .next (if stateRejected s then
      (s.respond (Response.rejected false false true (Config.freeOhms s.freeValues))).nextFree
    else s.respond (Response.ok s.resistance))

/-- SHUTDN, R205: the host's payload as given. -/
def execShutdn (p : BitVec 16) (s : State) : Host.Outcome State Fault Refusal :=
  .next (respondWrite (xwrite Command.shutdown.code p s))

/-- ENWIPER, R206. -/
def execEnwiper (s : State) : Host.Outcome State Fault Refusal :=
  .next (respondWrite (xwrite Command.controlWrite.code wiperWriteEnable s))

end Sys2Proof.Machine
end

