-- ==== Sys2Proof/Machine/Mapper.lean ====
section
/-! DEFINITION. The value mapper's operations: CLAMP, TORES, FROMRES, INC and DEC (spec/43_mapper.md). -/

namespace Sys2Proof.Machine

/-- CLAMP, R170: the operand is an i32. -/
def execClamp (raw : BitVec 32) (s : State) : Host.Outcome State Fault Refusal :=
  .next (s.respond (Response.ok ((clamp s.cfg raw.toInt).setWidth 17)))

/-- TORES, R171: no clamping. -/
def execTores (raw : BitVec 10) (s : State) : Host.Outcome State Fault Refusal :=
  .next (s.respond (Response.ok (toRes s.cfg raw)))

/-- FROMRES, R174: the operand is an i32. -/
def execFromres (target : BitVec 32) (s : State) : Host.Outcome State Fault Refusal :=
  .next (s.respond (Response.ok ((fromRes s.cfg target.toInt).setWidth 17)))

/-- One step of the wiper by `delta`, R176 and R177: rejected while nothing is cached, else a full RDAC_WRITE of the
clamped sum. -/
def stepSetting (delta : Int) (s : State) : State :=
  if stateRejected s then s.respond (Response.rejected false false true 0)
  else respondWrite (xwrite Command.rdacWrite.code ((clamp s.cfg (s.setting.toNat + delta)).setWidth 16) s)

/-- INC, R176. -/
def execInc (s : State) : Host.Outcome State Fault Refusal := .next (stepSetting 1 s)

/-- DEC, R177. -/
def execDec (s : State) : Host.Outcome State Fault Refusal := .next (stepSetting (-1) s)

end Sys2Proof.Machine
end

