-- ==== Sys2Proof/Machine/Verifier.lean ====
section
/-! DEFINITION. The control register verifier: VERIFY (spec/44_verifier.md), one definition per row of R196's state
table. -/

namespace Sys2Proof.Machine

/-- `Idle` to `WriteIssued`, R192: the CONTROL_WRITE frame with the three low bits; the answer is `nw`. -/
def verifyWrite (control : BitVec 8) (s : State) : Nat × State :=
  let w := writePhase (encodeFrame Command.controlWrite.code ((controlBits control).setWidth 16)) s
  (w.1, w.2.setVState .writeIssued)

/-- `WriteIssued` to `ReadBack`, R193: always, whatever the write's count. -/
def verifyRead (s : State) : TxnResult × State :=
  let r := readTxn Command.controlRead.code 0 s
  (r.1, r.2.setVState .readBack)

/-- `nr` of R190. -/
def TxnResult.errors : TxnResult → Nat
  | .data _ => 0
  | .failed n => n.toNat

/-- `mismatch` of R194: compared only when the read transaction returned data. -/
def TxnResult.mismatch (written : BitVec 8) : TxnResult → Bool
  | .data d => controlMismatch d written
  | .failed _ => false

/-- `ReadBack` to `Done` or `Error`, R194 and R195: the total is kept in `st.acc`. -/
def verifyFinish (nw : Nat) (r : TxnResult) (control : BitVec 8) (s : State) : State :=
  let total := nw + r.errors + (if r.mismatch (controlBits control) then 1 else 0)
  (s.setAcc (BitVec.ofNat 4 total)).setVState (if total = 0 then .done else .error)

/-- The response of `Done` and `Error`, R190 and R196. -/
def verifyResponse (r : TxnResult) (control : BitVec 8) (s : State) : Response :=
  let base := if s.vstate = .done then Response.ok 0 else Response.failed s.acc 0
  { base with rangeFlag := rangeFlag control, mismatch := r.mismatch (controlBits control) }

/-- VERIFY, R190: the four stages, then `Idle` again (R195). -/
def execVerify (control : BitVec 8) (s : State) : Host.Outcome State Fault Refusal :=
  let w := verifyWrite control s
  let r := verifyRead w.2
  let t := verifyFinish w.1 r.1 control r.2
  .next ((t.respond (verifyResponse r.1 control t)).setVState .idle)

end Sys2Proof.Machine
end

