-- ==== Sys2Proof/Machine/Wire.lean ====
section
/-! DEFINITION. The ten wire commands (spec/41_commands.md R120 to R129): what the block does when it is asked for the
command with a payload field `p`, in the command's own direction (XWRITE for the writing classes and NOP, XREAD for the
read class; log entry 2). -/

namespace Sys2Proof.Machine

/-- NOP, R120: rejected unless `cfg.NOP_WRITABLE`, then one write phase of frame 0x0000. -/
def execNop (p : Payload) (s : State) : Host.Outcome State Fault Refusal :=
  .next (respondWrite (xwrite Command.nop.code (p.setWidth 16) s))

/-- RDAC_WRITE, R121. -/
def execRdacWrite (p : Payload) (s : State) : Host.Outcome State Fault Refusal :=
  .next (respondWrite (xwrite Command.rdacWrite.code (p.setWidth 16) s))

/-- RDAC_READ, R122. -/
def execRdacRead (p : Payload) (s : State) : Host.Outcome State Fault Refusal :=
  .next (respondRead (xread Command.rdacRead.code (p.setWidth 16) s))

/-- TP_WRITE, R123. -/
def execTpWrite (p : Payload) (s : State) : Host.Outcome State Fault Refusal :=
  .next (respondWrite (xwrite Command.tpWrite.code (p.setWidth 16) s))

/-- RDAC_REFRESH, R124. -/
def execRdacRefresh (p : Payload) (s : State) : Host.Outcome State Fault Refusal :=
  .next (respondWrite (xwrite Command.rdacRefresh.code (p.setWidth 16) s))

/-- TP_WIPER_READ, R125: a location above 0x3F is rejected, every other one is sent. -/
def execTpWiperRead (p : Payload) (s : State) : Host.Outcome State Fault Refusal :=
  .next (respondRead (xread Command.tpWiperRead.code (p.setWidth 16) s))

/-- TP_LAST_USED, R126. -/
def execTpLastUsed (p : Payload) (s : State) : Host.Outcome State Fault Refusal :=
  .next (respondRead (xread Command.tpLastUsed.code (p.setWidth 16) s))

/-- CONTROL_WRITE, R127. -/
def execControlWrite (p : Payload) (s : State) : Host.Outcome State Fault Refusal :=
  .next (respondWrite (xwrite Command.controlWrite.code (p.setWidth 16) s))

/-- CONTROL_READ, R128. -/
def execControlRead (p : Payload) (s : State) : Host.Outcome State Fault Refusal :=
  .next (respondRead (xread Command.controlRead.code (p.setWidth 16) s))

/-- SHUTDOWN, R129. -/
def execShutdown (p : Payload) (s : State) : Host.Outcome State Fault Refusal :=
  .next (respondWrite (xwrite Command.shutdown.code (p.setWidth 16) s))

end Sys2Proof.Machine
end

