-- ==== Sys2Proof/Machine/Dispatch.lean ====
section
/-! DEFINITION. The meaning of every instruction: one arm per constructor, one call per arm. -/

namespace Sys2Proof.Machine

def exec (i : Instr) (s : State) : Host.Outcome State Fault Refusal :=
  match i with
  | .nop p => Sys2Proof.Machine.execNop p s
  | .rdacWrite p => Sys2Proof.Machine.execRdacWrite p s
  | .rdacRead p => Sys2Proof.Machine.execRdacRead p s
  | .tpWrite p => Sys2Proof.Machine.execTpWrite p s
  | .rdacRefresh p => Sys2Proof.Machine.execRdacRefresh p s
  | .tpWiperRead p => Sys2Proof.Machine.execTpWiperRead p s
  | .tpLastUsed p => Sys2Proof.Machine.execTpLastUsed p s
  | .controlWrite p => Sys2Proof.Machine.execControlWrite p s
  | .controlRead p => Sys2Proof.Machine.execControlRead p s
  | .shutdown p => Sys2Proof.Machine.execShutdown p s
  | .encode cmd payload => Sys2Proof.Machine.execEncode cmd payload s
  | .decode word => Sys2Proof.Machine.execDecode word s
  | .xwrite cmd payload => Sys2Proof.Machine.execXwrite cmd payload s
  | .xread cmd payload => Sys2Proof.Machine.execXread cmd payload s
  | .clamp raw => Sys2Proof.Machine.execClamp raw s
  | .tores raw => Sys2Proof.Machine.execTores raw s
  | .fromres target => Sys2Proof.Machine.execFromres target s
  | .inc => Sys2Proof.Machine.execInc s
  | .dec => Sys2Proof.Machine.execDec s
  | .verify control => Sys2Proof.Machine.execVerify control s
  | .beginOp => Sys2Proof.Machine.execBegin s
  | .setset v => Sys2Proof.Machine.execSetset v s
  | .getset => Sys2Proof.Machine.execGetset s
  | .setres t => Sys2Proof.Machine.execSetres t s
  | .getres => Sys2Proof.Machine.execGetres s
  | .shutdn p => Sys2Proof.Machine.execShutdn p s
  | .enwiper => Sys2Proof.Machine.execEnwiper s

end Sys2Proof.Machine
end

