-- ==== Sys2Proof/Machine/Port.lean ====
section
/-! DEFINITION. The request port (spec/30_encoding.md R98, R99, R103; spec/70_reset_and_hazards.md R250, R256): what the
block takes as its next operation, and its answer to a request that selects none. -/

namespace Sys2Proof.Machine

/-- The next request and the state in which it has been accepted: the host's next one, in `Idle` only (R196, R256);
none while the host presents nothing (R250). -/
def acceptRequest (s : State) : Option (Request × State) :=
  match s.requests with
  | [] => none
  | r :: rest => if s.vstate = .idle then some (r, s.setRequests rest) else none

/-- The answer to a request that names no instruction: `Rejected` with `rej_cmd`, no state change and no bus activity,
for a reserved operation number (R103) and for a reserved command code (R90); a refusal for a word that is no frame
(log entry 2). -/
def answerUndecoded (e : DecodeError) (s : State) : Host.Outcome State Fault Refusal :=
  match e with
  | .reservedOp _ => .next (s.respond (Response.rejected true false false 0))
  | .reservedCode _ => .next (s.respond (Response.rejected true false false 0))
  | .topBits bits => .refused (.notAFrame bits)

/-- Presents a request ahead of all others, to a block that is ready to accept it. -/
def presentRequest (r : Request) (s : State) : State := (s.setRequests (r :: s.requests)).setVState .idle

end Sys2Proof.Machine
end

