-- ==== Sys2Proof/Machine/Step.lean ====
section
/-! DEFINITION. One step of the machine: one whole host operation (spec/70_reset_and_hazards.md R256), or waiting. -/

namespace Sys2Proof.Machine

/-- Accepts the next request, decodes it and runs it to completion; with no request to accept, waits. -/
def step (s : State) : Host.Outcome State Fault Refusal :=
  match acceptRequest s with
  | none => .next s
  | some (r, s') =>
    match decode r with
    | .ok i => exec i s'
    | .error e => answerUndecoded e s'

/-- Presents a word of the opcode table on the request port, so that the very next step runs it. -/
def State.withFetchWord (s : State) (nbits w : Nat) : State := presentRequest (tableRequest nbits w) s

end Sys2Proof.Machine
end

