-- ==== Sys2Proof/WellFormed.lean ====
section
/-! DEFINITION. Well-formed instructions: those that name a command (R90) and, for a wire command, whose payload
field is one R87 admits in a frame the block sends. No meaning depends on this check: an instruction that fails it
still runs (its payload is forced to 0, or it is answered `Rejected`), as the rules say. -/

namespace Sys2Proof

/-- R87 for the frames, R90 for the `cmd` field of a request. -/
def Instr.wellFormed : Instr → Bool
  | .nop p => p == 0
  | .rdacWrite _ => true
  | .rdacRead p => p == 0
  | .tpWrite p => p == 0
  | .rdacRefresh p => p == 0
  | .tpWiperRead p => decide (p ≤ 0x3F)
  | .tpLastUsed p => p == 0
  | .controlWrite _ => true
  | .controlRead p => p == 0
  | .shutdown _ => true
  | .encode cmd _ => decide (cmd ≤ 9)
  | .decode _ => true
  | .xwrite cmd _ => decide (cmd ≤ 9)
  | .xread cmd _ => decide (cmd ≤ 9)
  | .clamp _ => true
  | .tores _ => true
  | .fromres _ => true
  | .inc => true
  | .dec => true
  | .verify _ => true
  | .beginOp => true
  | .setset _ => true
  | .getset => true
  | .setres _ => true
  | .getres => true
  | .shutdn _ => true
  | .enwiper => true

end Sys2Proof
end

