-- ==== Sys2Proof/Safety.lean ====
section
/-! DEFINITION. What counts as a safe run, and the terms in which the statements speak: the grammar of the transport
calls (spec/20_memory.md, spec/42_executor.md), the frames that may be sent (spec/41_commands.md R130), the invariant of
the state (spec/10_state.md), and the outcome of a write phase and of a read transaction as one function each. -/

namespace Sys2Proof.Safety

open Sys2Proof.Machine

/-! ### The grammar of the trace -/

/-- Where the bus stands between two transport calls. -/
inductive BusPhase where
  /-- No transaction is open. -/
  | ready
  /-- After `T.begin`. -/
  | opened
  /-- After the first `T.write`. -/
  | oneByte (b1 : Byte)
  /-- After the second `T.write`. -/
  | twoBytes (b1 b2 : Byte)
  /-- After the `T.end` of a read command's write phase: the read phase follows (R151). -/
  | mustRequest
  /-- A `T.request` left this many bytes to read, more than none (R147). -/
  | toRead (missing : Nat)
  deriving DecidableEq, Repr

/-- A frame the block may send: a well-formed wire command (R87), NOP only when it is writable (R86). -/
def sendable (cfg : Config) (f : FrameWord) : Bool :=
  match decodeFrame f with
  | .ok (.nop p) => cfg.nopWritable && (Instr.nop p).wellFormed
  | .ok i => i.wellFormed
  | .error _ => false

/-- The frames whose write phase a read phase follows (R85, R155). -/
def isReadFrame (f : FrameWord) : Bool := readable (frameCode f)

/-- One transport call, or none where the call breaks the grammar: `T.begin` with `cfg.BUS_ADDR` (R53), exactly two
`T.write` (R61), `T.end` and `T.request` with their stop parameters (R59), `T.request` for 2 bytes after a read
command's frame and only there (R56, R155), and as many `T.read` as bytes are available (R147). -/
def busCall (cfg : Config) : BusPhase → Event → Option BusPhase
  | .ready, .beginTx a => if a = cfg.busAddr then some .opened else none
  | .opened, .writeByte b _ => some (.oneByte b)
  | .oneByte b1, .writeByte b2 _ => some (.twoBytes b1 b2)
  | .twoBytes b1 b2, .endTx stop _ =>
    if stop = cfg.sendStopWritePhase ∧ sendable cfg (b1 ++ b2) = true then
      some (if isReadFrame (b1 ++ b2) then .mustRequest else .ready)
    else none
  | .mustRequest, .requestBytes a n stop k =>
    if a = cfg.busAddr ∧ n = 2 ∧ stop = cfg.sendStopReadPhase then
      some (if k.val = 0 then .ready else .toRead k.val)
    else none
  | .toRead n, .readByte _ => some (if n ≤ 1 then .ready else .toRead (n - 1))
  | _, _ => none

/-- The calls of a trace, oldest first. -/
def busRun (cfg : Config) : BusPhase → List Event → Option BusPhase
  | b, [] => some b
  | b, e :: rest =>
    match busCall cfg b e with
    | some b' => busRun cfg b' rest
    | none => none

/-- The trace is made of whole transactions that keep the grammar. -/
def traceConforms (s : State) : Bool := busRun s.cfg .ready s.trace == some .ready

/-- The frames of a list of calls: the two bytes of every write transaction. -/
def framesSent : List Event → List FrameWord
  | .writeByte b1 _ :: .writeByte b2 _ :: rest => (b1 ++ b2) :: framesSent rest
  | _ :: rest => framesSent rest
  | [] => []

/-- The instructions that can reach the bus with a write of the wiper: RDAC_WRITE and what is composed from it. -/
def writesWiper : Instr → Bool
  | .nop _ => false
  | .rdacWrite _ => true
  | .rdacRead _ => false
  | .tpWrite _ => false
  | .rdacRefresh _ => false
  | .tpWiperRead _ => false
  | .tpLastUsed _ => false
  | .controlWrite _ => false
  | .controlRead _ => false
  | .shutdown _ => false
  | .encode _ _ => false
  | .decode _ => false
  | .xwrite cmd _ => decide (cmd = Command.rdacWrite.code)
  | .xread _ _ => false
  | .clamp _ => false
  | .tores _ => false
  | .fromres _ => false
  | .inc => true
  | .dec => true
  | .verify _ => false
  | .beginOp => true
  | .setset _ => true
  | .getset => false
  | .setres _ => true
  | .getres => false
  | .shutdn _ => false
  | .enwiper => false

/-- The instructions that read the cache (R22, R253). -/
def readsCache : Instr → Bool
  | .nop _ => false
  | .rdacWrite _ => false
  | .rdacRead _ => false
  | .tpWrite _ => false
  | .rdacRefresh _ => false
  | .tpWiperRead _ => false
  | .tpLastUsed _ => false
  | .controlWrite _ => false
  | .controlRead _ => false
  | .shutdown _ => false
  | .encode _ _ => false
  | .decode _ => false
  | .xwrite _ _ => false
  | .xread _ _ => false
  | .clamp _ => false
  | .tores _ => false
  | .fromres _ => false
  | .inc => true
  | .dec => true
  | .verify _ => false
  | .beginOp => false
  | .setset _ => false
  | .getset => true
  | .setres _ => false
  | .getres => true
  | .shutdn _ => false
  | .enwiper => false

/-! ### The bits of a request -/

/-- The bits of a request that R99 and R100 give the operation `op`: `op` itself, then the `cmd` and `arg` fields that
the operation uses. Every other bit is ignored. -/
def usedBits (op : BitVec 5) : ReqWord :=
  match op.toNat with
  | 0x00 | 0x02 | 0x03 => 0x1FF0000FFFF
  | 0x01 | 0x0F => 0x1F00000FFFF
  | 0x04 | 0x06 | 0x0B | 0x0D => 0x1F0FFFFFFFF
  | 0x05 => 0x1F0000003FF
  | 0x09 => 0x1F0000000FF
  | _ => 0x1F000000000

/-- A rational rounded to the nearest integer with halves down, the other tie rule of R173. -/
def roundHalfDown (q : ℚ) : Int := ⌈q - 1 / 2⌉

/-! ### The invariant of the state -/

/-- Whenever the cache is valid, the setting is within its bounds and the resistance is derived from it (R21, R23). -/
def cacheOk (s : State) : Bool :=
  !s.settingValid ||
    (decide (s.cfg.minValue ≤ s.setting.toNat) && decide (s.setting.toNat ≤ s.cfg.maxValue) &&
      s.resistance == toRes s.cfg s.setting)

/-- Between operations: the cache is consistent, the verifier is `Idle` (R195), the accumulator is at most 8 (R26) and
the trace conforms. -/
def stateOk (s : State) : Bool :=
  cacheOk s && s.vstate == .idle && decide (s.acc ≤ 8) && traceConforms s

/-! ### What the transport answers in one phase -/

/-- The three answers of a write phase. -/
structure WriteAnswers where
  ack1 : Bool
  ack2 : Bool
  status : Byte
  deriving DecidableEq, Repr

/-- The answers of a read phase: the bytes that were available. -/
inductive ReadAnswers where
  | none
  | one (b : Byte)
  | two (b1 b2 : Byte)
  deriving DecidableEq, Repr

/-- The transport's next three answers to `T.write`, `T.write`, `T.end`. -/
def writeAnswers (o : Oracle) : WriteAnswers × Oracle :=
  let a := o.nextAck
  let b := a.2.nextAck
  let e := b.2.nextStatus
  (⟨a.1, b.1, e.1⟩, e.2)

/-- The transport's next answer to `T.request` and to the reads it allows. -/
def readAnswers (o : Oracle) : ReadAnswers × Oracle :=
  let k := o.nextCount
  if k.1.val = 0 then (.none, k.2)
  else
    let b := k.2.nextByte
    if k.1.val = 1 then (.one b.1, b.2)
    else
      let c := b.2.nextByte
      (.two b.1 c.1, c.2)

/-- R144's count of a write phase. -/
def WriteAnswers.errors (w : WriteAnswers) : Nat :=
  (if w.ack1 then 0 else 1) + (if w.ack2 then 0 else 1) + (if w.status = 0 then 0 else 1)

/-- R146's count of a read phase: the shortfall. -/
def ReadAnswers.errors : ReadAnswers → Nat
  | .none => 2
  | .one _ => 1
  | .two _ _ => 0

/-- The four calls of a write phase of frame `f`, with their answers (R143). -/
def writeEvents (cfg : Config) (f : FrameWord) (w : WriteAnswers) : List Event :=
  [.beginTx cfg.busAddr, .writeByte (f.extractLsb' 8 8) w.ack1, .writeByte (f.extractLsb' 0 8) w.ack2,
   .endTx cfg.sendStopWritePhase w.status]

/-- The calls of a read phase, with their answers (R146, R147). -/
def readEvents (cfg : Config) : ReadAnswers → List Event
  | .none => [.requestBytes cfg.busAddr 2 cfg.sendStopReadPhase 0]
  | .one b => [.requestBytes cfg.busAddr 2 cfg.sendStopReadPhase 1, .readByte b]
  | .two b1 b2 => [.requestBytes cfg.busAddr 2 cfg.sendStopReadPhase 2, .readByte b1, .readByte b2]

/-- The first received byte, or what `st.rx_msb` held. -/
def ReadAnswers.msb (old : Byte) : ReadAnswers → Byte
  | .none => old
  | .one b => b
  | .two b _ => b

/-- The second received byte, or what `st.rx_lsb` held. -/
def ReadAnswers.lsb (old : Byte) : ReadAnswers → Byte
  | .two _ b => b
  | _ => old

/-- The state after one write phase of frame `f` and its count in `st.acc`: everything else is as before. -/
def afterWrite (f : FrameWord) (s : State) : State :=
  let w := writeAnswers s.oracle
  { s with
    frame := f
    acc := BitVec.ofNat 4 w.1.errors
    oracle := w.2
    trace := s.trace ++ writeEvents s.cfg f w.1 }

/-- The count of the write phase that the block would make in state `s`. -/
def writeCount (s : State) : Nat := (writeAnswers s.oracle).1.errors

/-- The answers of the read phase of the read transaction that the block would make in state `s`. -/
def readGiven (s : State) : ReadAnswers := (readAnswers (writeAnswers s.oracle).2).1

/-- The count of the read transaction that the block would make in state `s` (R155). -/
def readCount (s : State) : Nat := writeCount s + (readGiven s).errors

/-- The datum of the read transaction that the block would make in state `s`, when both bytes come. -/
def readDatum (s : State) : BitVec 16 := (readGiven s).msb 0 ++ (readGiven s).lsb 0

/-- The state after one read transaction of frame `f`: everything else is as before. -/
def afterRead (f : FrameWord) (s : State) : State :=
  let w := writeAnswers s.oracle
  let r := readAnswers w.2
  { s with
    frame := f
    acc := BitVec.ofNat 4 (w.1.errors + r.1.errors)
    rxMsb := r.1.msb s.rxMsb
    rxLsb := r.1.lsb s.rxLsb
    oracle := r.2
    trace := s.trace ++ (writeEvents s.cfg f w.1 ++ readEvents s.cfg r.1) }

/-- The cache holds the setting `v` and the resistance derived from it (R23). -/
def withCache (v : Setting) (s : State) : State :=
  { s with setting := v, settingValid := true, resistance := toRes s.cfg v }

/-- The smaller of a setting and the maximum. -/
def capped (cfg : Config) (p : Nat) : Setting := BitVec.ofNat 10 (min p cfg.maxValue)

/-- The response produced, everything else as before. -/
def responded (r : Response) (s : State) : State := { s with rsp := some r }

/-- A response without any flag, value or count. -/
def plain : Response := ⟨.ok, 0, 0, false, false, false, false, false, 0⟩

/-- An operation that succeeds with a value and changes nothing else. -/
def answered (v : BitVec 17) (s : State) : State := responded { plain with value := v } s

/-- The state after an operation that is one write phase of frame `f` (R140, without a refresh). -/
def wroteFrame (f : FrameWord) (s : State) : State :=
  responded
    (if writeCount s = 0 then plain
     else { plain with kind := .failed, count := BitVec.ofNat 4 (writeCount s) })
    (afterWrite f s)

/-- The state after an operation that is one read transaction of frame `f` (R148): the datum, or the count and an
unstated value. -/
def readFrame (f : FrameWord) (s : State) : State :=
  if readCount s = 0 then responded { plain with value := (readDatum s).setWidth 17 } (afterRead f s)
  else
    { responded { plain with kind := .failed, count := BitVec.ofNat 4 (readCount s),
                             value := (Config.freeDatum s.freeValues).setWidth 17 } (afterRead f s) with
      freeValues := s.freeValues + 1 }

/-- The state after the write phase of RDAC_WRITE with payload `p` was clean: the requested value cached, then one read
transaction of RDAC_READ, whose datum's payload field is cached if it came (R152). -/
def refreshed (p : Payload) (s : State) : State :=
  let requested := withCache (capped s.cfg p.toNat) s
  if readCount requested = 0 then
    withCache (capped s.cfg ((readDatum requested).extractLsb' 0 10).toNat) (afterRead 0x0800 requested)
  else afterRead 0x0800 requested

/-- The state after RDAC_WRITE with payload `p` (R140, R152). -/
def wroteWiper (p : Payload) (s : State) : State :=
  let w := afterWrite (0x0400 ||| p.setWidth 16) s
  if writeCount s = 0 then
    responded { plain with refreshCount := BitVec.ofNat 3 (readCount w) } (refreshed p w)
  else responded { plain with kind := .failed, count := BitVec.ofNat 4 (writeCount s) } w

/-- The state after a request was rejected with the given flags and the value 0: only the response is new. -/
def turnedAway (rejCmd rejData rejState : Bool) (s : State) : State :=
  responded { plain with kind := .rejected, rejCmd := rejCmd, rejData := rejData, rejState := rejState } s

/-- `Clamp` as one bounded integer (R170). -/
def bounded (cfg : Config) (v : Int) : Setting := BitVec.ofInt 10 (max 0 (min v cfg.maxValue))

/-- R174's integer form of `FromRes`, with its two early exits. -/
def settingOf (cfg : Config) (target : Int) : Setting :=
  if target ≤ 0 then 0
  else if cfg.rfsOhms ≤ target then BitVec.ofNat 10 cfg.maxValue
  else capped cfg ((2048 * target.toNat + cfg.rfsOhms) / (2 * cfg.rfsOhms))

/-- R171's integer form of `ToRes`. -/
def ohmsOf (cfg : Config) (raw : Nat) : Nat := (2 * raw * cfg.rfsOhms + 1023) / 2046

/-- The state after VERIFY (R190): the CONTROL_WRITE frame with the three low bits, the CONTROL_READ transaction, and
the total of the two counts and the mismatch unit. -/
def verified (control : BitVec 8) (s : State) : State :=
  let low : BitVec 8 := control &&& 0x7
  let w := afterWrite (0x1C00 ||| low.setWidth 16) s
  let mismatch : Bool := readCount w == 0 && (readDatum w).extractLsb' 0 8 != low
  let total := writeCount s + readCount w + (if mismatch then 1 else 0)
  { responded
      { plain with
        kind := if total = 0 then .ok else .failed
        count := BitVec.ofNat 4 total
        rangeFlag := decide (7 < control.toNat)
        mismatch := mismatch }
      (afterRead 0x2000 w) with
    acc := BitVec.ofNat 4 total
    vstate := .idle }

/-- The state after BEGIN (R200): the cache at the maximum, the unlock, the RDAC_WRITE of the maximum with its refresh,
and the sum of the two write counts. -/
def begun (s : State) : State :=
  let top : Payload := BitVec.ofNat 10 s.cfg.maxValue
  let s0 := withCache top s
  let w1 := afterWrite 0x1C02 s0
  let w2 := afterWrite (0x0400 ||| top.setWidth 16) w1
  let total := writeCount s0 + writeCount w1
  { responded
      { plain with
        kind := if total = 0 then .ok else .failed
        count := BitVec.ofNat 4 total
        refreshCount := if writeCount w1 = 0 then BitVec.ofNat 3 (readCount w2) else 0 }
      (if writeCount w1 = 0 then refreshed top w2 else w2) with
    acc := BitVec.ofNat 4 total }

/-- The frames of an RDAC_WRITE of the setting `p` (R130): its own, then that of the follow-up read. -/
def wiperFrames (p : BitVec 16) : List FrameWord := [0x0400 ||| p, 0x0800]

/-- R130's table: the frames an instruction sends, in order, when nothing is rejected and the first write is clean. -/
def listedFrames (s : State) : Instr → List FrameWord
  | .nop _ => [0x0000]
  | .rdacWrite p => wiperFrames (p.setWidth 16)
  | .rdacRead _ => [0x0800]
  | .tpWrite _ => [0x0C00]
  | .rdacRefresh _ => [0x1000]
  | .tpWiperRead p => [0x1400 ||| p.setWidth 16]
  | .tpLastUsed _ => [0x1800]
  | .controlWrite p => [0x1C00 ||| p.setWidth 16]
  | .controlRead _ => [0x2000]
  | .shutdown p => [0x2400 ||| p.setWidth 16]
  | .encode _ _ => []
  | .decode _ => []
  | .xwrite cmd payload =>
    if cmd = 0x0 then [0x0000]
    else if cmd = 0x1 then wiperFrames payload
    else if cmd = 0x3 then [0x0C00]
    else if cmd = 0x4 then [0x1000]
    else if cmd = 0x7 then [0x1C00 ||| payload]
    else if cmd = 0x9 then [0x2400 ||| payload]
    else []
  | .xread cmd payload =>
    if cmd = 0x2 then [0x0800]
    else if cmd = 0x5 then [0x1400 ||| payload]
    else if cmd = 0x6 then [0x1800]
    else if cmd = 0x8 then [0x2000]
    else []
  | .clamp _ => []
  | .tores _ => []
  | .fromres _ => []
  | .inc => wiperFrames ((capped s.cfg (s.setting.toNat + 1)).setWidth 16)
  | .dec => wiperFrames ((capped s.cfg (s.setting.toNat - 1)).setWidth 16)
  | .verify control => [0x1C00 ||| (control &&& 0x7).setWidth 16, 0x2000]
  | .beginOp => 0x1C02 :: wiperFrames (BitVec.ofNat 16 s.cfg.maxValue)
  | .setset v => wiperFrames ((bounded s.cfg v.toInt).setWidth 16)
  | .getset => []
  | .setres t => wiperFrames ((settingOf s.cfg t.toInt).setWidth 16)
  | .getres => []
  | .shutdn p => [0x2400 ||| p]
  | .enwiper => [0x1C02]

/-- The largest `count` of R228. -/
def maxCount : Instr → Nat
  | .nop _ => 3
  | .rdacWrite _ => 3
  | .rdacRead _ => 5
  | .tpWrite _ => 3
  | .rdacRefresh _ => 3
  | .tpWiperRead _ => 5
  | .tpLastUsed _ => 5
  | .controlWrite _ => 3
  | .controlRead _ => 5
  | .shutdown _ => 3
  | .encode _ _ => 0
  | .decode _ => 0
  | .xwrite _ _ => 3
  | .xread _ _ => 5
  | .clamp _ => 0
  | .tores _ => 0
  | .fromres _ => 0
  | .inc => 3
  | .dec => 3
  | .verify _ => 8
  | .beginOp => 6
  | .setset _ => 3
  | .getset => 0
  | .setres _ => 3
  | .getres => 0
  | .shutdn _ => 3
  | .enwiper => 3

/-- The most transport calls of an XWRITE (R266): a write phase and a full follow-up read for RDAC_WRITE (R143, R152), a
write phase for the other commands that can be sent (R140), none for those always rejected (R141). -/
def maxWriteCalls (cmd : Code) : Nat :=
  if cmd = 0x1 then 11
  else if cmd = 0x0 ∨ cmd = 0x3 ∨ cmd = 0x4 ∨ cmd = 0x7 ∨ cmd = 0x9 then 4
  else 0

/-- The most transport calls of an XREAD (R266): a full read transaction for a readable command (R155), none for the
others (R149). -/
def maxReadCalls (cmd : Code) : Nat :=
  if cmd = 0x2 ∨ cmd = 0x5 ∨ cmd = 0x6 ∨ cmd = 0x8 then 7 else 0

/-- The most transport calls an instruction makes (R266). -/
def maxCalls : Instr → Nat
  | .nop _ => 4
  | .rdacWrite _ => 11
  | .rdacRead _ => 7
  | .tpWrite _ => 4
  | .rdacRefresh _ => 4
  | .tpWiperRead _ => 7
  | .tpLastUsed _ => 7
  | .controlWrite _ => 4
  | .controlRead _ => 7
  | .shutdown _ => 4
  | .encode _ _ => 0
  | .decode _ => 0
  | .xwrite cmd _ => maxWriteCalls cmd
  | .xread cmd _ => maxReadCalls cmd
  | .clamp _ => 0
  | .tores _ => 0
  | .fromres _ => 0
  | .inc => 11
  | .dec => 11
  | .verify _ => 11
  | .beginOp => 15
  | .setset _ => 11
  | .getset => 0
  | .setres _ => 11
  | .getres => 0
  | .shutdn _ => 4
  | .enwiper => 4

end Sys2Proof.Safety
end

