-- ==== Sys2Proof/Certificates/Slice0/Obligations.lean ====
section
/-! DEFINITION. The statements for the provers. Their vocabulary is Sys2Proof/Safety.lean's: `wroteFrame`, `readFrame`,
`wroteWiper`, `verified` and `begun` give the whole state after an operation, so each such equation is also the
operation's frame: every field it does not name is unchanged. -/

open Sys2Proof Sys2Proof.Machine Sys2Proof.Safety

/-! ### Encoding -/

/-- Every instruction is read back from its own word, with every operand at every value (R81, R84, R98 to R100). -/
def Obligations.DecodeReadsBackEveryEncoding : Prop :=
  ∀ i : Instr, decode (encode i) = .ok i

/-- A frame that decodes is the encoding of what it decodes to (R81, R91); of a request that decodes, the encoding
keeps exactly the bits R99 and R100 give its operation. That the encoder leaves the ignored bits 0 is the model's choice
(log entry 16). -/
def Obligations.EncodeRestoresTheDecodedBits : Prop :=
  (∀ (w : FrameWord) (i : Instr), decode (.frame w) = .ok i → encode i = .frame w) ∧
  (∀ (w : ReqWord) (i : Instr), decode (.req w) = .ok i → encode i = .req (w &&& usedBits (reqOp w)))

/-- A few words written out from the encoding tables (R81, R84, R98, R99) decode to their instructions. -/
def Obligations.WrittenWordsDecode : Prop :=
  decode (.frame 0x0600) = .ok (.rdacWrite 0x200) ∧
  decode (.frame 0x1419) = .ok (.tpWiperRead 0x19) ∧
  decode (.frame 0x2401) = .ok (.shutdown 0x001) ∧
  decode (.req 0x02100000200) = .ok (.xwrite 0x1 0x0200) ∧
  decode (.req 0x09000000002) = .ok (.verify 0x02) ∧
  decode (.req 0x0BFFFFFFFFB) = .ok (.setset 0xFFFFFFFB) ∧
  decode (.req 0x10000000000) = .ok .enwiper

/-- A request names an operation exactly when its `op` field is at most 0x10 (R98, R103). -/
def Obligations.RequestDecodesIffOperation : Prop :=
  ∀ w : ReqWord, (∃ i, decode (.req w) = .ok i) ↔ (reqOp w).toNat ≤ 0x10

/-- A word is a frame exactly when bits 15:14 are 0 and bits 13:10 hold a code from 0x0 to 0x9 (R80, R90). -/
def Obligations.FrameDecodesIffCommand : Prop :=
  ∀ w : FrameWord, (∃ i, decode (.frame w) = .ok i) ↔ (frameTop w = 0 ∧ (frameCode w).toNat ≤ 9)

/-! ### The codec -/

/-- DECODE of ENCODE's frame gives back the code and the payload, `known` exactly for codes 0 to 9 (R113). The place of
the three sub-fields in the response's value (R101, R7) is the model's reading (log entry 9). -/
def Obligations.DecodeOfEncodedFrame : Prop :=
  ∀ (cmd : Code) (payload : BitVec 16), payload.toNat ≤ 0x3FF →
    frameCode (encodeFrame cmd payload) = cmd ∧
    framePayload (encodeFrame cmd payload) = payload.setWidth 10 ∧
    ∀ s : State, exec (.decode (encodeFrame cmd payload)) s =
      .next (answered
        (BitVec.ofNat 17 ((if cmd.toNat ≤ 9 then 0x4000 else 0) + cmd.toNat * 0x400 + payload.toNat)) s)

/-- R114: ENCODE after DECODE restores bits 13:0 of every word, and is never rejected for its payload. -/
def Obligations.EncodeOfDecodedWord : Prop :=
  ∀ w : BitVec 16,
    encodeFrame (frameCode w) ((framePayload w).setWidth 16) = w &&& 0x3FFF ∧
    payloadOverflows ((framePayload w).setWidth 16) = false

/-- R115: the frame of a payload that is too wide decodes to the masked payload. -/
def Obligations.RejectedFrameCarriesMaskedPayload : Prop :=
  ∀ (cmd : Code) (p : BitVec 16), ((framePayload (encodeFrame cmd p)).setWidth 16 : BitVec 16) = p &&& 0x3FF

/-- R110: ENCODE answers the packed frame, `Ok` for a command's code with a payload of at most 0x3FF, else `Rejected`
with the flag of each failing test; nothing else of the state changes. -/
def Obligations.EncodeAnswersPackedFrame : Prop :=
  ∀ (cmd : Code) (payload : BitVec 16) (s : State),
    exec (.encode cmd payload) s =
      .next (responded
        { plain with
          kind := if cmd.toNat ≤ 9 ∧ payload.toNat ≤ 0x3FF then .ok else .rejected
          value := BitVec.ofNat 17 (cmd.toNat * 0x400 + payload.toNat % 0x400)
          rejCmd := decide (9 < cmd.toNat)
          rejData := decide (0x3FF < payload.toNat) } s)

/-- R111: a payload above 0x3FF is rejected by ENCODE with `rej_data`, regardless of the command. -/
def Obligations.EncodeRejectsWidePayload : Prop :=
  ∀ (cmd : Code) (payload : BitVec 16) (s : State), 0x3FF < payload.toNat →
    ∃ r : Response, exec (.encode cmd payload) s = .next (responded r s) ∧ r.kind = .rejected ∧ r.rejData = true

/-- DECODE answers `known`, the code and the payload of the word's bits 13:0, whatever bits 15:14 hold (R112). The place
of the three sub-fields in the response's value (R101, R7) is the model's reading (log entry 9). -/
def Obligations.DecodeAnswersFields : Prop :=
  ∀ (word : BitVec 16) (s : State),
    exec (.decode word) s =
      .next (answered
        (BitVec.ofNat 17 ((if word.toNat % 0x4000 / 0x400 ≤ 9 then 0x4000 else 0) + word.toNat % 0x4000)) s)

/-! ### The value mapper -/

/-- R170: CLAMP answers the nearer bound outside the range and the value itself inside, for every i32. -/
def Obligations.ClampAnswersBoundedValue : Prop :=
  ∀ (raw : BitVec 32) (s : State),
    exec (.clamp raw) s = .next (answered ((bounded s.cfg raw.toInt).setWidth 17) s)

/-- R171: TORES answers the integer form of the rounded quotient with the divisor 1023, for every u10 and both
resolutions. -/
def Obligations.ToresAnswersOhms : Prop :=
  ∀ (raw : BitVec 10) (s : State),
    exec (.tores raw) s = .next (answered (BitVec.ofNat 17 (ohmsOf s.cfg raw.toNat)) s)

/-- R174: FROMRES answers the integer form with its two early exits, for every i32. -/
def Obligations.FromresAnswersSetting : Prop :=
  ∀ (target : BitVec 32) (s : State),
    exec (.fromres target) s =
      .next (answered ((settingOf s.cfg target.toInt).setWidth 17) s)

/-- `Clamp` is idempotent and monotonic (R170). -/
def Obligations.ClampIdempotentMonotone : Prop :=
  ∀ (cfg : Config) (a b : Int),
    clamp cfg (clamp cfg a).toNat = clamp cfg a ∧ (a ≤ b → (clamp cfg a).toNat ≤ (clamp cfg b).toNat)

/-- `ToRes` is strictly increasing, 0 at 0 and the full scale at 1023 (R171). -/
def Obligations.ToResStrictlyIncreasing : Prop :=
  ∀ (cfg : Config),
    (∀ a b : Setting, a < b → toRes cfg a < toRes cfg b) ∧ toRes cfg 0 = 0 ∧
    (toRes cfg 1023).toNat = cfg.rfsOhms

/-- R173's `round_haz`, on the rational quotient: `floor(q + 1/2)` from 0 up, `-floor(-q + 1/2)` below. -/
def Obligations.RoundHazRoundsQuotient : Prop :=
  ∀ (num : Int) (den : Nat), 0 < den →
    (0 ≤ num → roundHaz num den = ⌊(num : ℚ) / den + 1 / 2⌋) ∧
    (num < 0 → roundHaz num den = -⌊-((num : ℚ) / den) + 1 / 2⌋)

/-- The tie rule is never exercised (R173): on every raw value up to 1023 and every target from 0 to full scale, the
rounding gives the integer that rounding with halves down gives, and so do `ToRes` and `FromRes`. -/
def Obligations.MapperMeetsNoTie : Prop :=
  ∀ (cfg : Config),
    (∀ raw : Setting,
      roundHaz (raw.toNat * cfg.rfsOhms) 1023 = roundHalfDown (raw.toNat * cfg.rfsOhms / 1023) ∧
      toRes cfg raw = BitVec.ofInt 17 (roundHalfDown (raw.toNat * cfg.rfsOhms / 1023))) ∧
    (∀ t : Nat, t ≤ cfg.rfsOhms →
      roundHaz (t * 1024) cfg.rfsOhms = roundHalfDown (t * 1024 / cfg.rfsOhms) ∧
      fromRes cfg t = clamp cfg (roundHalfDown (t * 1024 / cfg.rfsOhms)))

/-- For a 10-bit part the round trip from ohms to a setting and back is below one and a half steps plus half an ohm
(R178, the corrected bound of spec/90_conflicts.md C1). -/
def Obligations.RoundTripWithinOneAndAHalfSteps : Prop :=
  ∀ (cfg : Config), cfg.res = .bits10 → ∀ x : Nat, x ≤ cfg.rfsOhms →
    2046 * |((toRes cfg (fromRes cfg x)).toNat : Int) - x| < 3 * cfg.rfsOhms + 1023

/-- R176 and R177: INC and DEC are rejected while nothing is cached; else they are an RDAC_WRITE of the setting one up
or one down, saturating at both ends. -/
def Obligations.IncDecWriteNeighbour : Prop :=
  ∀ s : State,
    (s.settingValid = false →
      exec .inc s = .next (turnedAway false false true s) ∧ exec .dec s = .next (turnedAway false false true s)) ∧
    (s.settingValid = true →
      exec .inc s = .next (wroteWiper (capped s.cfg (s.setting.toNat + 1)) s) ∧
      exec .dec s = .next (wroteWiper (capped s.cfg (s.setting.toNat - 1)) s))

/-! ### The executor -/

/-- XWRITE of an admitted command completes: one write phase of the frame R142 selects, and for RDAC_WRITE the refresh
of R152. -/
def Obligations.XwriteCompletes : Prop :=
  ∀ (payload : BitVec 16) (s : State), payload.toNat ≤ 0x3FF →
    exec (.xwrite 0x1 payload) s = .next (wroteWiper (payload.setWidth 10) s) ∧
    exec (.xwrite 0x3 payload) s = .next (wroteFrame 0x0C00 s) ∧
    exec (.xwrite 0x4 payload) s = .next (wroteFrame 0x1000 s) ∧
    exec (.xwrite 0x7 payload) s = .next (wroteFrame (0x1C00 ||| payload) s) ∧
    exec (.xwrite 0x9 payload) s = .next (wroteFrame (0x2400 ||| payload) s) ∧
    (s.cfg.nopWritable = true → exec (.xwrite 0x0 payload) s = .next (wroteFrame 0x0000 s))

/-- R141: XWRITE rejects every other command and every payload above 0x3FF, with the flag of each failing test, no
transport call and no state change. -/
def Obligations.XwriteRejects : Prop :=
  ∀ (code : Code) (payload : BitVec 16) (s : State),
    let rejCmd : Bool := !(code == 0x1 || code == 0x3 || code == 0x4 || code == 0x7 || code == 0x9 ||
      (code == 0x0 && s.cfg.nopWritable))
    let rejData : Bool := decide (0x3FF < payload.toNat)
    (rejCmd || rejData) = true →
      exec (.xwrite code payload) s = .next (turnedAway rejCmd rejData false s)

/-- XREAD of an admitted command completes: one read transaction of the command's frame, with the location of
TP_WIPER_READ and payload 0 for the others (R148, R155). The unstated value of a failed response, and the count of such
values, are the model's choice (log entry 4). -/
def Obligations.XreadCompletes : Prop :=
  ∀ (payload : BitVec 16) (s : State),
    (payload.toNat ≤ 0x3FF →
      exec (.xread 0x2 payload) s = .next (readFrame 0x0800 s) ∧
      exec (.xread 0x6 payload) s = .next (readFrame 0x1800 s) ∧
      exec (.xread 0x8 payload) s = .next (readFrame 0x2000 s)) ∧
    (payload.toNat ≤ 0x3F → exec (.xread 0x5 payload) s = .next (readFrame (0x1400 ||| payload) s))

/-- R149: XREAD rejects every command but the four readable ones, every payload above 0x3FF and every location above
0x3F, with the flag of each failing test and the sentinel -100; only the response and the model's own count of unstated
values are new (the unstated value and its count: log entry 4). -/
def Obligations.XreadRejects : Prop :=
  ∀ (code : Code) (payload : BitVec 16) (s : State),
    let rejCmd : Bool := !(code == 0x2 || code == 0x5 || code == 0x6 || code == 0x8)
    let rejData : Bool := decide (0x3FF < payload.toNat) || (code == 0x5 && decide (0x3F < payload.toNat))
    (rejCmd || rejData) = true →
      ∃ r : Response,
        exec (.xread code payload) s = .next { responded r s with freeValues := s.freeValues + 1 } ∧
        r = { plain with kind := .rejected, value := r.value, rejCmd := rejCmd, rejData := rejData } ∧
        r.legacy = -100

/-- R102: the signed view of an XREAD response is the datum (0 to 65535), the count negated (-1 to -5) or -100, and it
tells the three apart. -/
def Obligations.SignedViewTellsReadsApart : Prop :=
  ∀ (code : Code) (payload : BitVec 16) (s t : State) (r : Response),
    exec (.xread code payload) s = .next t → t.rsp = some r →
      (r.kind = .ok → r.legacy = r.value.toNat) ∧ (r.kind = .failed → r.legacy = -(r.count.toNat : Int)) ∧
      (r.kind = .rejected → r.legacy = -100) ∧ (r.kind = .ok ↔ 0 ≤ r.legacy) ∧
      (r.kind = .failed ↔ -5 ≤ r.legacy ∧ r.legacy ≤ -1) ∧
      (r.kind = .rejected ↔ r.legacy = -100) ∧ r.legacy ≤ 65535

/-- The answers of a write phase and of a read phase are the oracle script's next ones, in call order, a read phase
taking as many bytes as it was told are available (R50, R104, R147; the script is the model's own, log entry 3). -/
def Obligations.ScriptAnswersAreUsed : Prop :=
  ∀ (o : Oracle) (a1 a2 : Bool) (as : List Bool) (e : Byte) (es : List Byte) (ks : List (Fin 3))
      (b1 b2 : Byte) (bs : List Byte),
    (o.acks = a1 :: a2 :: as → o.statuses = e :: es →
      writeAnswers o = (⟨a1, a2, e⟩, { o with acks := as, statuses := es })) ∧
    (o.counts = 0 :: ks → readAnswers o = (.none, { o with counts := ks })) ∧
    (o.counts = 1 :: ks → o.bytes = b1 :: bs → readAnswers o = (.one b1, { o with counts := ks, bytes := bs })) ∧
    (o.counts = 2 :: ks → o.bytes = b1 :: b2 :: bs →
      readAnswers o = (.two b1 b2, { o with counts := ks, bytes := bs }))

/-! ### The ten wire commands

That a frame row of the opcode table can be run as a request of its own, in its command's direction, is the model's
choice (log entry 2); what is then done is what the rules of spec/41_commands.md say of the command. -/

/-- The command-only and payload-carrying wire commands complete with one write phase: TP_WRITE (R123), RDAC_REFRESH
(R124), CONTROL_WRITE (R127), SHUTDOWN (R129). The request itself is the model's choice (log entry 2). -/
def Obligations.WireWritesComplete : Prop :=
  ∀ (p : Payload) (s : State),
    exec (.tpWrite p) s = .next (wroteFrame 0x0C00 s) ∧
    exec (.rdacRefresh p) s = .next (wroteFrame 0x1000 s) ∧
    exec (.controlWrite p) s = .next (wroteFrame (0x1C00 ||| p.setWidth 16) s) ∧
    exec (.shutdown p) s = .next (wroteFrame (0x2400 ||| p.setWidth 16) s)

/-- RDAC_WRITE completes with its write phase and, when that was clean, the refresh (R121, R152). The request itself is
the model's choice (log entry 2). -/
def Obligations.WiperWriteCompletes : Prop :=
  ∀ (p : Payload) (s : State), exec (.rdacWrite p) s = .next (wroteWiper p s)

/-- The wire reads complete with one read transaction: RDAC_READ (R122), TP_LAST_USED (R126), CONTROL_READ (R128), and
TP_WIPER_READ (R125) with a location of at most 0x3F. The request itself is the model's choice (log entry 2), and so are
the unstated value of a failed response and the count of such values (log entry 4). -/
def Obligations.WireReadsComplete : Prop :=
  ∀ (p : Payload) (s : State),
    exec (.rdacRead p) s = .next (readFrame 0x0800 s) ∧
    exec (.tpLastUsed p) s = .next (readFrame 0x1800 s) ∧
    exec (.controlRead p) s = .next (readFrame 0x2000 s) ∧
    (p.toNat ≤ 0x3F → exec (.tpWiperRead p) s = .next (readFrame (0x1400 ||| p.setWidth 16) s))

/-- TP_WIPER_READ with a location above 0x3F is rejected with `rej_data` and no bus activity (R92, R125). The request
itself is the model's choice (log entry 2), and so is the unstated value (log entry 4). -/
def Obligations.WiperReadRejectsWideLocation : Prop :=
  ∀ (p : Payload) (s : State), 0x3F < p.toNat →
    ∃ v : BitVec 17, exec (.tpWiperRead p) s =
      .next { responded { plain with kind := .rejected, value := v, rejData := true } s with
              freeValues := s.freeValues + 1 }

/-- NOP is sent as frame 0x0000 when `cfg.NOP_WRITABLE`, and is rejected with `rej_cmd` otherwise (R86, R120).
The request itself is the model's choice (log entry 2). -/
def Obligations.NopFollowsConfiguration : Prop :=
  ∀ (p : Payload) (s : State),
    (s.cfg.nopWritable = true → exec (.nop p) s = .next (wroteFrame 0x0000 s)) ∧
    (s.cfg.nopWritable = false → exec (.nop p) s = .next (turnedAway true false false s))

/-- A wire command is the executor's operation on the same command and payload (the model's choice, log entry 2). -/
def Obligations.WireCommandsAreExecutorOperations : Prop :=
  ∀ (p : Payload) (s : State),
    (∀ c ∈ [Command.nop, .rdacWrite, .tpWrite, .rdacRefresh, .controlWrite, .shutdown],
      exec (c.instr p) s = exec (.xwrite c.code (p.setWidth 16)) s) ∧
    (∀ c ∈ [Command.rdacRead, .tpWiperRead, .tpLastUsed, .controlRead],
      exec (c.instr p) s = exec (.xread c.code (p.setWidth 16)) s)

/-! ### The verifier -/

/-- R190: VERIFY completes with both transactions, the total of the two counts and the mismatch unit, and `Idle`. -/
def Obligations.VerifyCompletes : Prop :=
  ∀ (control : BitVec 8) (s : State), exec (.verify control) s = .next (verified control s)

/-- R196: VERIFY goes from `WriteIssued` to `ReadBack` to `Done` when the total is 0 and to `Error` when it is not,
whatever the counts are; `Done` responds `Ok` and `Error` `Failed` with the total, and it ends in `Idle`. -/
def Obligations.VerifierFollowsStateTable : Prop :=
  ∀ (control : BitVec 8) (s : State),
    let w := verifyWrite control s
    let r := verifyRead w.2
    let t := verifyFinish w.1 r.1 control r.2
    w.2.vstate = .writeIssued ∧ r.2.vstate = .readBack ∧
      (t.vstate = .done ↔ t.acc = 0) ∧ (t.vstate = .error ↔ t.acc ≠ 0) ∧
      (t.vstate = .done → (verifyResponse r.1 control t).kind = .ok) ∧
      (t.vstate = .error →
        (verifyResponse r.1 control t).kind = .failed ∧ (verifyResponse r.1 control t).count = t.acc) ∧
      ∃ v, exec (.verify control) s = .next v ∧
        v = (t.respond (verifyResponse r.1 control t)).setVState .idle ∧ v.vstate = .idle

/-! ### The composite operations -/

/-- R200: BEGIN completes with the cache at the maximum, the unlock, the RDAC_WRITE with its refresh, and the sum of
the two write counts. -/
def Obligations.BeginCompletes : Prop :=
  ∀ s : State, exec .beginOp s = .next (begun s)

/-- R201 and R203: SETSET writes the clamped value, SETRES the setting of the target resistance. -/
def Obligations.SetOperationsWriteWiper : Prop :=
  ∀ (v : BitVec 32) (s : State),
    exec (.setset v) s = .next (wroteWiper (bounded s.cfg v.toInt) s) ∧
    exec (.setres v) s = .next (wroteWiper (settingOf s.cfg v.toInt) s)

/-- R202 and R204: GETSET and GETRES answer the cache, or are rejected with `rej_state` while nothing is cached,
with a value that is not stated and is the model's free value (log entry 4). -/
def Obligations.GetOperationsAnswerCache : Prop :=
  ∀ s : State,
    (s.settingValid = true →
      exec .getset s = .next (answered (s.setting.setWidth 17) s) ∧
      exec .getres s = .next (answered s.resistance s)) ∧
    (s.settingValid = false →
      ∃ v1 v2 : BitVec 17,
        exec .getset s = .next { responded { plain with kind := .rejected, value := v1, rejState := true } s with
                                 freeValues := s.freeValues + 1 } ∧
        exec .getres s = .next { responded { plain with kind := .rejected, value := v2, rejState := true } s with
                                 freeValues := s.freeValues + 1 })

/-- R205 and R206: SHUTDN sends its payload in a SHUTDOWN frame or rejects one above 0x3FF; ENWIPER sends 0x1C02. -/
def Obligations.ShutdnAndEnwiperWriteFrames : Prop :=
  ∀ (p : BitVec 16) (s : State),
    (p.toNat ≤ 0x3FF → exec (.shutdn p) s = .next (wroteFrame (0x2400 ||| p) s)) ∧
    (0x3FF < p.toNat → exec (.shutdn p) s = .next (turnedAway false true false s)) ∧
    exec .enwiper s = .next (wroteFrame 0x1C02 s)

/-- R207: the identities between the composites and the core operations, for every state and every oracle; the last one
needs the cache to be consistent, which `StepKeepsStateOk` keeps. -/
def Obligations.CompositesEqualCoreOperations : Prop :=
  ∀ (v : BitVec 32) (p : BitVec 16) (s : State),
    exec (.setset v) s = exec (.xwrite 0x1 ((clamp s.cfg v.toInt).setWidth 16)) s ∧
    exec (.setres v) s = exec (.xwrite 0x1 ((fromRes s.cfg v.toInt).setWidth 16)) s ∧
    (s.settingValid = true →
      exec .inc s = exec (.setset (BitVec.ofInt 32 (s.setting.toNat + 1))) s ∧
      exec .dec s = exec (.setset (BitVec.ofInt 32 (s.setting.toNat - 1))) s) ∧
    exec .enwiper s = exec (.xwrite 0x7 0x02) s ∧
    exec (.shutdn p) s = exec (.xwrite 0x9 p) s ∧
    (s.settingValid = true → cacheOk s = true → exec .getres s = exec (.tores s.setting) s)

/-! ### The whole machine -/

/-- "The block has no traps": every instruction answers a next state and a response (R220, R234). -/
def Obligations.EveryInstructionResponds : Prop :=
  ∀ (i : Instr) (s : State), ∃ (t : State) (r : Response), exec i s = .next t ∧ t.rsp = some r

/-- A step accepts the host's next request in `Idle`, decodes it and runs exactly the decoded instruction (R98, R99,
R256). The spec knows the 41-bit request alone: that a bare frame is accepted as a request and run is the model's choice
(log entry 2), and so is the list that holds the requests still to be presented (log entry 5). -/
def Obligations.StepRunsDecodedInstruction : Prop :=
  ∀ (s : State) (r : Request) (rest : List Request) (i : Instr),
    s.requests = r :: rest → s.vstate = .idle → decode r = .ok i →
      step s = exec i { s with requests := rest }

/-- Without a request the block waits, and no request is accepted outside `Idle` (R250, R256, R196). That the model
stays unchanged outside `Idle`, which no run reaches between steps, is its choice (log entry 11). -/
def Obligations.StepWaitsForRequest : Prop :=
  ∀ s : State, (s.requests = [] ∨ s.vstate ≠ .idle) → step s = .next s

/-- R103: a request with an `op` value of 0x11 to 0x1F is answered `Rejected` with `rej_cmd`, and nothing else changes. -/
def Obligations.ReservedOperationRejected : Prop :=
  ∀ (s : State) (w : ReqWord) (rest : List Request),
    s.requests = .req w :: rest → s.vstate = .idle → 0x11 ≤ (reqOp w).toNat →
      step s = .next (turnedAway true false false { s with requests := rest })

/-- A bare word on the request port that is no frame: a code of 0xA to 0xF is answered `Rejected` with `rej_cmd`, a word
whose bits 15:14 are not 0 is refused by name (the model's choice, log entry 2). -/
def Obligations.BareWordThatIsNoFrame : Prop :=
  ∀ (s : State) (w : FrameWord) (rest : List Request),
    s.requests = .frame w :: rest → s.vstate = .idle →
      (frameTop w = 0 → 9 < (frameCode w).toNat →
        step s = .next (turnedAway true false false { s with requests := rest })) ∧
      (frameTop w ≠ 0 → step s = .refused (.notAFrame (frameTop w)))

/-- The word placed by `withFetchWord` is the one the very next step runs, with the requests behind it untouched. The
presenting of a request, its setting of `Idle` and the reading of a table word are the model's choices (log entries 5,
11, 16). -/
def Obligations.FetchWordRunsNext : Prop :=
  ∀ (s : State) (nbits w : Nat) (i : Instr),
    decodeTableWord nbits w = some i → step (s.withFetchWord nbits w) = exec i { s with vstate := .idle }

/-- Every step keeps the invariant: the cache within its bounds and consistent (R21, R23), the verifier `Idle` (R195),
the accumulator at most 8 (R26), and the whole trace made of complete transactions that keep the transport's contract
and carry only frames the block may send (R53 to R57, R87, R147, R151). -/
def Obligations.StepKeepsStateOk : Prop :=
  ∀ s t : State, stateOk s = true → step s = .next t → stateOk t = true

/-- The state after reset satisfies the invariant, whatever part the instance is built for. -/
def Obligations.ResetIsStateOk : Prop :=
  stateOk State.reset = true

/-- Reset leaves the cache invalid, the verifier `Idle` and the accumulator 0, and makes no transport call (R35, R250,
R251). That the decision parameters of the reset state stand at R6's defaults is the model's choice (log entry 1): the
spec has them as instantiated. -/
def Obligations.ResetLeavesCacheInvalid : Prop :=
  State.reset.settingValid = false ∧ State.reset.vstate = .idle ∧ State.reset.acc = 0 ∧ State.reset.trace = [] ∧
  State.reset.cfg.nopWritable = false ∧ State.reset.cfg.sendStopWritePhase = true ∧
  State.reset.cfg.sendStopReadPhase = true

/-- No step changes the configuration (R28), clears the valid bit (R22), rewrites the history of transport calls (R66)
or takes more than the request it accepts (R256). -/
def Obligations.StepKeepsConfigurationAndHistory : Prop :=
  ∀ s t : State, step s = .next t →
    t.cfg = s.cfg ∧ (s.settingValid = true → t.settingValid = true) ∧ s.trace <+: t.trace ∧
    (s.vstate = .idle → t.requests = s.requests.tail)

/-- R229: a rejected operation changes nothing but the response (and the model's own count of unstated values,
log entry 4). -/
def Obligations.RejectionChangesNoState : Prop :=
  ∀ (i : Instr) (s t : State) (r : Response),
    exec i s = .next t → t.rsp = some r → r.kind = .rejected →
      t = { s with rsp := some r, freeValues := t.freeValues }

/-- R229: a failed RDAC_WRITE, and a failed operation composed from one other than BEGIN, leaves the cache as it was. -/
def Obligations.FailedWiperWriteKeepsCache : Prop :=
  ∀ (i : Instr) (s t : State) (r : Response),
    exec i s = .next t → t.rsp = some r → r.kind = .failed → writesWiper i = true → i ≠ .beginOp →
      t.setting = s.setting ∧ t.settingValid = s.settingValid ∧ t.resistance = s.resistance

/-- Only RDAC_WRITE and what is composed from it write the cache (R21, R70). -/
def Obligations.OnlyWiperWritesChangeCache : Prop :=
  ∀ (i : Instr) (s t : State), exec i s = .next t → writesWiper i = false →
    t.setting = s.setting ∧ t.settingValid = s.settingValid ∧ t.resistance = s.resistance

/-- R130: the frames an operation sends are the listed ones in the listed order, none beyond them. -/
def Obligations.FramesSentAreListed : Prop :=
  ∀ (i : Instr) (s t : State), exec i s = .next t →
    framesSent (t.trace.drop s.trace.length) <+: listedFrames s i

/-- R228: the largest count of every operation, and the largest `refresh_count`. -/
def Obligations.CountsAreBounded : Prop :=
  ∀ (i : Instr) (s t : State) (r : Response), exec i s = .next t → t.rsp = some r →
    r.count.toNat ≤ maxCount i ∧ r.refreshCount.toNat ≤ 5

/-- The most transport calls of every operation (R266), by command for XWRITE (R140, R143, R152) and XREAD (R149, R155). -/
def Obligations.TransportCallsAreBounded : Prop :=
  ∀ (i : Instr) (s t : State), exec i s = .next t → t.trace.length ≤ s.trace.length + maxCalls i

/-- The fields of a response agree with its kind: a count exactly with `Failed`, a rejection flag exactly with
`Rejected`, `mismatch` only with `Failed`, `range_flag` and `mismatch` only from VERIFY, `refresh_count` only from an
operation that writes the wiper (R101, R154, R243). -/
def Obligations.ResponseFieldsAgreeWithKind : Prop :=
  ∀ (i : Instr) (s t : State) (r : Response), exec i s = .next t → t.rsp = some r →
    (r.kind = .failed ↔ r.count ≠ 0) ∧
    (r.kind = .rejected ↔ (r.rejCmd || r.rejData || r.rejState) = true) ∧
    (r.mismatch = true → r.kind = .failed) ∧
    ((r.rangeFlag || r.mismatch) = true → ∃ c, i = .verify c) ∧
    (r.refreshCount ≠ 0 → writesWiper i = true)

/-- An operation other than INC, DEC, GETSET and GETRES makes the same calls and gives the same response whatever the
cache holds (R22, R253). -/
def Obligations.OtherOperationsIgnoreCache : Prop :=
  ∀ (i : Instr) (s t t' : State) (v : Setting) (b : Bool) (o : Ohms), readsCache i = false →
    exec i s = .next t → exec i { s with setting := v, settingValid := b, resistance := o } = .next t' →
      t'.rsp = t.rsp ∧ t'.trace = t.trace ∧ t'.oracle = t.oracle ∧ t'.acc = t.acc

/-- R28: only the legal parameters instantiate the block, and the configuration holds them. -/
def Obligations.OnlyLegalParametersInstantiate : Prop :=
  ∀ (res rfs : Nat) (addr : BitVec 7) (nopW stopW stopR : Bool),
    ((Config.instantiate res rfs addr nopW stopW stopR).isSome = true ↔
      (res = 8 ∨ res = 10) ∧ (rfs = 20000 ∨ rfs = 50000 ∨ rfs = 100000) ∧
      (addr = 0x2F ∨ addr = 0x2C ∨ addr = 0x2E)) ∧
    ∀ c, Config.instantiate res rfs addr nopW stopW stopR = some c →
      c.res.bits = res ∧ c.rfsOhms = rfs ∧ c.busAddr = addr ∧ c.maxValue = 2 ^ res - 1 ∧ c.minValue = 0 ∧
      c.nopWritable = nopW ∧ c.sendStopWritePhase = stopW ∧ c.sendStopReadPhase = stopR
end

