-- ==== Sys2Proof/Laws/Encoding.lean ====
section
/-! SUPPORT. The fields of a packed frame and of a packed request are the fields that were packed. -/

namespace Sys2Proof

/-- The low half of a concatenation. -/
theorem extract_append_low {m n : Nat} (a : BitVec m) (b : BitVec n) (k : Nat) (h : k ≤ n) :
    (a ++ b).extractLsb' 0 k = b.extractLsb' 0 k := by
  ext i hi
  simp [BitVec.getLsbD_append]
  omega

/-- The high half of a concatenation. -/
theorem extract_append_high {m n : Nat} (a : BitVec m) (b : BitVec n) (j k : Nat) (h : n ≤ j) :
    (a ++ b).extractLsb' j k = a.extractLsb' (j - n) k := by
  ext i hi
  simp only [BitVec.getElem_extractLsb', BitVec.getLsbD_append]
  rw [if_neg (by omega), show j + i - n = j - n + i by omega]

theorem frameTop_packFrame (c : Command) (p : Payload) : frameTop (packFrame c p) = 0 := by
  unfold frameTop packFrame
  rw [extract_append_high _ _ _ _ (by omega), extract_append_high _ _ _ _ (by omega)]
  rfl

theorem frameCode_packFrame (c : Command) (p : Payload) : frameCode (packFrame c p) = c.code := by
  unfold frameCode packFrame
  rw [extract_append_high _ _ _ _ (by omega), extract_append_low _ _ _ (by omega)]
  simp

theorem framePayload_packFrame (c : Command) (p : Payload) : framePayload (packFrame c p) = p := by
  unfold framePayload packFrame
  rw [extract_append_low _ _ _ (by omega)]
  simp

theorem ofCode_code (c : Command) : Command.ofCode c.code = some c := by
  cases c <;> rfl

theorem reqOp_packReq (op : BitVec 5) (cmd : Code) (arg : BitVec 32) : reqOp (packReq op cmd arg) = op := by
  unfold reqOp packReq
  rw [extract_append_high _ _ _ _ (by omega), extract_append_high _ _ _ _ (by omega)]
  simp

theorem reqCmd_packReq (op : BitVec 5) (cmd : Code) (arg : BitVec 32) : reqCmd (packReq op cmd arg) = cmd := by
  unfold reqCmd packReq
  rw [extract_append_high _ _ _ _ (by omega), extract_append_low _ _ _ (by omega)]
  simp

theorem reqArg_packReq (op : BitVec 5) (cmd : Code) (arg : BitVec 32) : reqArg (packReq op cmd arg) = arg := by
  unfold reqArg packReq
  rw [extract_append_low _ _ _ (by omega)]
  simp

/-- A narrow operand survives the 32-bit `arg` field. -/
theorem extract_setWidth {k : Nat} (x : BitVec k) (h : k ≤ 32) : (x.setWidth 32).extractLsb' 0 k = x := by
  ext i hi
  simp [BitVec.getLsbD_eq_getElem hi]
  omega

theorem reqArg16_packReq (op : BitVec 5) (cmd : Code) (x : BitVec 16) :
    reqArg16 (packReq op cmd (x.setWidth 32)) = x := by
  unfold reqArg16 packReq
  rw [extract_append_low _ _ _ (by omega), extract_setWidth _ (by omega)]

theorem reqArg10_packReq (op : BitVec 5) (cmd : Code) (x : BitVec 10) :
    reqArg10 (packReq op cmd (x.setWidth 32)) = x := by
  unfold reqArg10 packReq
  rw [extract_append_low _ _ _ (by omega), extract_setWidth _ (by omega)]

theorem reqArg8_packReq (op : BitVec 5) (cmd : Code) (x : BitVec 8) :
    reqArg8 (packReq op cmd (x.setWidth 32)) = x := by
  unfold reqArg8 packReq
  rw [extract_append_low _ _ _ (by omega), extract_setWidth _ (by omega)]

end Sys2Proof
end

