-- ==== Sys2Proof/Laws/State.lean ====
section
/-! SUPPORT. What each update of the state leaves in each field: one lemma per field per update, true by rfl. -/

namespace Sys2Proof.Machine

variable (s : State)

/-! ### setFrame -/

@[simp] theorem State.setFrame_cfg (f : FrameWord) : (s.setFrame f).cfg = s.cfg := rfl
@[simp] theorem State.setFrame_setting (f : FrameWord) : (s.setFrame f).setting = s.setting := rfl
@[simp] theorem State.setFrame_settingValid (f : FrameWord) : (s.setFrame f).settingValid = s.settingValid := rfl
@[simp] theorem State.setFrame_resistance (f : FrameWord) : (s.setFrame f).resistance = s.resistance := rfl
@[simp] theorem State.setFrame_vstate (f : FrameWord) : (s.setFrame f).vstate = s.vstate := rfl
@[simp] theorem State.setFrame_acc (f : FrameWord) : (s.setFrame f).acc = s.acc := rfl
@[simp] theorem State.setFrame_frame (f : FrameWord) : (s.setFrame f).frame = f := rfl
@[simp] theorem State.setFrame_rxMsb (f : FrameWord) : (s.setFrame f).rxMsb = s.rxMsb := rfl
@[simp] theorem State.setFrame_rxLsb (f : FrameWord) : (s.setFrame f).rxLsb = s.rxLsb := rfl
@[simp] theorem State.setFrame_rsp (f : FrameWord) : (s.setFrame f).rsp = s.rsp := rfl
@[simp] theorem State.setFrame_trace (f : FrameWord) : (s.setFrame f).trace = s.trace := rfl
@[simp] theorem State.setFrame_requests (f : FrameWord) : (s.setFrame f).requests = s.requests := rfl
@[simp] theorem State.setFrame_oracle (f : FrameWord) : (s.setFrame f).oracle = s.oracle := rfl
@[simp] theorem State.setFrame_freeValues (f : FrameWord) : (s.setFrame f).freeValues = s.freeValues := rfl

/-! ### setAcc -/

@[simp] theorem State.setAcc_cfg (n : BitVec 4) : (s.setAcc n).cfg = s.cfg := rfl
@[simp] theorem State.setAcc_setting (n : BitVec 4) : (s.setAcc n).setting = s.setting := rfl
@[simp] theorem State.setAcc_settingValid (n : BitVec 4) : (s.setAcc n).settingValid = s.settingValid := rfl
@[simp] theorem State.setAcc_resistance (n : BitVec 4) : (s.setAcc n).resistance = s.resistance := rfl
@[simp] theorem State.setAcc_vstate (n : BitVec 4) : (s.setAcc n).vstate = s.vstate := rfl
@[simp] theorem State.setAcc_acc (n : BitVec 4) : (s.setAcc n).acc = n := rfl
@[simp] theorem State.setAcc_frame (n : BitVec 4) : (s.setAcc n).frame = s.frame := rfl
@[simp] theorem State.setAcc_rxMsb (n : BitVec 4) : (s.setAcc n).rxMsb = s.rxMsb := rfl
@[simp] theorem State.setAcc_rxLsb (n : BitVec 4) : (s.setAcc n).rxLsb = s.rxLsb := rfl
@[simp] theorem State.setAcc_rsp (n : BitVec 4) : (s.setAcc n).rsp = s.rsp := rfl
@[simp] theorem State.setAcc_trace (n : BitVec 4) : (s.setAcc n).trace = s.trace := rfl
@[simp] theorem State.setAcc_requests (n : BitVec 4) : (s.setAcc n).requests = s.requests := rfl
@[simp] theorem State.setAcc_oracle (n : BitVec 4) : (s.setAcc n).oracle = s.oracle := rfl
@[simp] theorem State.setAcc_freeValues (n : BitVec 4) : (s.setAcc n).freeValues = s.freeValues := rfl

/-! ### setRxMsb -/

@[simp] theorem State.setRxMsb_cfg (b : Byte) : (s.setRxMsb b).cfg = s.cfg := rfl
@[simp] theorem State.setRxMsb_setting (b : Byte) : (s.setRxMsb b).setting = s.setting := rfl
@[simp] theorem State.setRxMsb_settingValid (b : Byte) : (s.setRxMsb b).settingValid = s.settingValid := rfl
@[simp] theorem State.setRxMsb_resistance (b : Byte) : (s.setRxMsb b).resistance = s.resistance := rfl
@[simp] theorem State.setRxMsb_vstate (b : Byte) : (s.setRxMsb b).vstate = s.vstate := rfl
@[simp] theorem State.setRxMsb_acc (b : Byte) : (s.setRxMsb b).acc = s.acc := rfl
@[simp] theorem State.setRxMsb_frame (b : Byte) : (s.setRxMsb b).frame = s.frame := rfl
@[simp] theorem State.setRxMsb_rxMsb (b : Byte) : (s.setRxMsb b).rxMsb = b := rfl
@[simp] theorem State.setRxMsb_rxLsb (b : Byte) : (s.setRxMsb b).rxLsb = s.rxLsb := rfl
@[simp] theorem State.setRxMsb_rsp (b : Byte) : (s.setRxMsb b).rsp = s.rsp := rfl
@[simp] theorem State.setRxMsb_trace (b : Byte) : (s.setRxMsb b).trace = s.trace := rfl
@[simp] theorem State.setRxMsb_requests (b : Byte) : (s.setRxMsb b).requests = s.requests := rfl
@[simp] theorem State.setRxMsb_oracle (b : Byte) : (s.setRxMsb b).oracle = s.oracle := rfl
@[simp] theorem State.setRxMsb_freeValues (b : Byte) : (s.setRxMsb b).freeValues = s.freeValues := rfl

/-! ### setRxLsb -/

@[simp] theorem State.setRxLsb_cfg (b : Byte) : (s.setRxLsb b).cfg = s.cfg := rfl
@[simp] theorem State.setRxLsb_setting (b : Byte) : (s.setRxLsb b).setting = s.setting := rfl
@[simp] theorem State.setRxLsb_settingValid (b : Byte) : (s.setRxLsb b).settingValid = s.settingValid := rfl
@[simp] theorem State.setRxLsb_resistance (b : Byte) : (s.setRxLsb b).resistance = s.resistance := rfl
@[simp] theorem State.setRxLsb_vstate (b : Byte) : (s.setRxLsb b).vstate = s.vstate := rfl
@[simp] theorem State.setRxLsb_acc (b : Byte) : (s.setRxLsb b).acc = s.acc := rfl
@[simp] theorem State.setRxLsb_frame (b : Byte) : (s.setRxLsb b).frame = s.frame := rfl
@[simp] theorem State.setRxLsb_rxMsb (b : Byte) : (s.setRxLsb b).rxMsb = s.rxMsb := rfl
@[simp] theorem State.setRxLsb_rxLsb (b : Byte) : (s.setRxLsb b).rxLsb = b := rfl
@[simp] theorem State.setRxLsb_rsp (b : Byte) : (s.setRxLsb b).rsp = s.rsp := rfl
@[simp] theorem State.setRxLsb_trace (b : Byte) : (s.setRxLsb b).trace = s.trace := rfl
@[simp] theorem State.setRxLsb_requests (b : Byte) : (s.setRxLsb b).requests = s.requests := rfl
@[simp] theorem State.setRxLsb_oracle (b : Byte) : (s.setRxLsb b).oracle = s.oracle := rfl
@[simp] theorem State.setRxLsb_freeValues (b : Byte) : (s.setRxLsb b).freeValues = s.freeValues := rfl

/-! ### setVState -/

@[simp] theorem State.setVState_cfg (v : VState) : (s.setVState v).cfg = s.cfg := rfl
@[simp] theorem State.setVState_setting (v : VState) : (s.setVState v).setting = s.setting := rfl
@[simp] theorem State.setVState_settingValid (v : VState) : (s.setVState v).settingValid = s.settingValid := rfl
@[simp] theorem State.setVState_resistance (v : VState) : (s.setVState v).resistance = s.resistance := rfl
@[simp] theorem State.setVState_vstate (v : VState) : (s.setVState v).vstate = v := rfl
@[simp] theorem State.setVState_acc (v : VState) : (s.setVState v).acc = s.acc := rfl
@[simp] theorem State.setVState_frame (v : VState) : (s.setVState v).frame = s.frame := rfl
@[simp] theorem State.setVState_rxMsb (v : VState) : (s.setVState v).rxMsb = s.rxMsb := rfl
@[simp] theorem State.setVState_rxLsb (v : VState) : (s.setVState v).rxLsb = s.rxLsb := rfl
@[simp] theorem State.setVState_rsp (v : VState) : (s.setVState v).rsp = s.rsp := rfl
@[simp] theorem State.setVState_trace (v : VState) : (s.setVState v).trace = s.trace := rfl
@[simp] theorem State.setVState_requests (v : VState) : (s.setVState v).requests = s.requests := rfl
@[simp] theorem State.setVState_oracle (v : VState) : (s.setVState v).oracle = s.oracle := rfl
@[simp] theorem State.setVState_freeValues (v : VState) : (s.setVState v).freeValues = s.freeValues := rfl

/-! ### setCache -/

@[simp] theorem State.setCache_cfg (v : Setting) (r : Ohms) : (s.setCache v r).cfg = s.cfg := rfl
@[simp] theorem State.setCache_setting (v : Setting) (r : Ohms) : (s.setCache v r).setting = v := rfl
@[simp] theorem State.setCache_settingValid (v : Setting) (r : Ohms) : (s.setCache v r).settingValid = true := rfl
@[simp] theorem State.setCache_resistance (v : Setting) (r : Ohms) : (s.setCache v r).resistance = r := rfl
@[simp] theorem State.setCache_vstate (v : Setting) (r : Ohms) : (s.setCache v r).vstate = s.vstate := rfl
@[simp] theorem State.setCache_acc (v : Setting) (r : Ohms) : (s.setCache v r).acc = s.acc := rfl
@[simp] theorem State.setCache_frame (v : Setting) (r : Ohms) : (s.setCache v r).frame = s.frame := rfl
@[simp] theorem State.setCache_rxMsb (v : Setting) (r : Ohms) : (s.setCache v r).rxMsb = s.rxMsb := rfl
@[simp] theorem State.setCache_rxLsb (v : Setting) (r : Ohms) : (s.setCache v r).rxLsb = s.rxLsb := rfl
@[simp] theorem State.setCache_rsp (v : Setting) (r : Ohms) : (s.setCache v r).rsp = s.rsp := rfl
@[simp] theorem State.setCache_trace (v : Setting) (r : Ohms) : (s.setCache v r).trace = s.trace := rfl
@[simp] theorem State.setCache_requests (v : Setting) (r : Ohms) : (s.setCache v r).requests = s.requests := rfl
@[simp] theorem State.setCache_oracle (v : Setting) (r : Ohms) : (s.setCache v r).oracle = s.oracle := rfl
@[simp] theorem State.setCache_freeValues (v : Setting) (r : Ohms) : (s.setCache v r).freeValues = s.freeValues := rfl

/-! ### setOracle -/

@[simp] theorem State.setOracle_cfg (o : Oracle) : (s.setOracle o).cfg = s.cfg := rfl
@[simp] theorem State.setOracle_setting (o : Oracle) : (s.setOracle o).setting = s.setting := rfl
@[simp] theorem State.setOracle_settingValid (o : Oracle) : (s.setOracle o).settingValid = s.settingValid := rfl
@[simp] theorem State.setOracle_resistance (o : Oracle) : (s.setOracle o).resistance = s.resistance := rfl
@[simp] theorem State.setOracle_vstate (o : Oracle) : (s.setOracle o).vstate = s.vstate := rfl
@[simp] theorem State.setOracle_acc (o : Oracle) : (s.setOracle o).acc = s.acc := rfl
@[simp] theorem State.setOracle_frame (o : Oracle) : (s.setOracle o).frame = s.frame := rfl
@[simp] theorem State.setOracle_rxMsb (o : Oracle) : (s.setOracle o).rxMsb = s.rxMsb := rfl
@[simp] theorem State.setOracle_rxLsb (o : Oracle) : (s.setOracle o).rxLsb = s.rxLsb := rfl
@[simp] theorem State.setOracle_rsp (o : Oracle) : (s.setOracle o).rsp = s.rsp := rfl
@[simp] theorem State.setOracle_trace (o : Oracle) : (s.setOracle o).trace = s.trace := rfl
@[simp] theorem State.setOracle_requests (o : Oracle) : (s.setOracle o).requests = s.requests := rfl
@[simp] theorem State.setOracle_oracle (o : Oracle) : (s.setOracle o).oracle = o := rfl
@[simp] theorem State.setOracle_freeValues (o : Oracle) : (s.setOracle o).freeValues = s.freeValues := rfl

/-! ### logCall -/

@[simp] theorem State.logCall_cfg (e : Event) : (s.logCall e).cfg = s.cfg := rfl
@[simp] theorem State.logCall_setting (e : Event) : (s.logCall e).setting = s.setting := rfl
@[simp] theorem State.logCall_settingValid (e : Event) : (s.logCall e).settingValid = s.settingValid := rfl
@[simp] theorem State.logCall_resistance (e : Event) : (s.logCall e).resistance = s.resistance := rfl
@[simp] theorem State.logCall_vstate (e : Event) : (s.logCall e).vstate = s.vstate := rfl
@[simp] theorem State.logCall_acc (e : Event) : (s.logCall e).acc = s.acc := rfl
@[simp] theorem State.logCall_frame (e : Event) : (s.logCall e).frame = s.frame := rfl
@[simp] theorem State.logCall_rxMsb (e : Event) : (s.logCall e).rxMsb = s.rxMsb := rfl
@[simp] theorem State.logCall_rxLsb (e : Event) : (s.logCall e).rxLsb = s.rxLsb := rfl
@[simp] theorem State.logCall_rsp (e : Event) : (s.logCall e).rsp = s.rsp := rfl
@[simp] theorem State.logCall_trace (e : Event) : (s.logCall e).trace = s.trace ++ [e] := rfl
@[simp] theorem State.logCall_requests (e : Event) : (s.logCall e).requests = s.requests := rfl
@[simp] theorem State.logCall_oracle (e : Event) : (s.logCall e).oracle = s.oracle := rfl
@[simp] theorem State.logCall_freeValues (e : Event) : (s.logCall e).freeValues = s.freeValues := rfl

/-! ### respond -/

@[simp] theorem State.respond_cfg (r : Response) : (s.respond r).cfg = s.cfg := rfl
@[simp] theorem State.respond_setting (r : Response) : (s.respond r).setting = s.setting := rfl
@[simp] theorem State.respond_settingValid (r : Response) : (s.respond r).settingValid = s.settingValid := rfl
@[simp] theorem State.respond_resistance (r : Response) : (s.respond r).resistance = s.resistance := rfl
@[simp] theorem State.respond_vstate (r : Response) : (s.respond r).vstate = s.vstate := rfl
@[simp] theorem State.respond_acc (r : Response) : (s.respond r).acc = s.acc := rfl
@[simp] theorem State.respond_frame (r : Response) : (s.respond r).frame = s.frame := rfl
@[simp] theorem State.respond_rxMsb (r : Response) : (s.respond r).rxMsb = s.rxMsb := rfl
@[simp] theorem State.respond_rxLsb (r : Response) : (s.respond r).rxLsb = s.rxLsb := rfl
@[simp] theorem State.respond_rsp (r : Response) : (s.respond r).rsp = some r := rfl
@[simp] theorem State.respond_trace (r : Response) : (s.respond r).trace = s.trace := rfl
@[simp] theorem State.respond_requests (r : Response) : (s.respond r).requests = s.requests := rfl
@[simp] theorem State.respond_oracle (r : Response) : (s.respond r).oracle = s.oracle := rfl
@[simp] theorem State.respond_freeValues (r : Response) : (s.respond r).freeValues = s.freeValues := rfl

/-! ### nextFree -/

@[simp] theorem State.nextFree_cfg : (s.nextFree).cfg = s.cfg := rfl
@[simp] theorem State.nextFree_setting : (s.nextFree).setting = s.setting := rfl
@[simp] theorem State.nextFree_settingValid : (s.nextFree).settingValid = s.settingValid := rfl
@[simp] theorem State.nextFree_resistance : (s.nextFree).resistance = s.resistance := rfl
@[simp] theorem State.nextFree_vstate : (s.nextFree).vstate = s.vstate := rfl
@[simp] theorem State.nextFree_acc : (s.nextFree).acc = s.acc := rfl
@[simp] theorem State.nextFree_frame : (s.nextFree).frame = s.frame := rfl
@[simp] theorem State.nextFree_rxMsb : (s.nextFree).rxMsb = s.rxMsb := rfl
@[simp] theorem State.nextFree_rxLsb : (s.nextFree).rxLsb = s.rxLsb := rfl
@[simp] theorem State.nextFree_rsp : (s.nextFree).rsp = s.rsp := rfl
@[simp] theorem State.nextFree_trace : (s.nextFree).trace = s.trace := rfl
@[simp] theorem State.nextFree_requests : (s.nextFree).requests = s.requests := rfl
@[simp] theorem State.nextFree_oracle : (s.nextFree).oracle = s.oracle := rfl
@[simp] theorem State.nextFree_freeValues : (s.nextFree).freeValues = s.freeValues + 1 := rfl

/-! ### setRequests -/

@[simp] theorem State.setRequests_cfg (rs : List Request) : (s.setRequests rs).cfg = s.cfg := rfl
@[simp] theorem State.setRequests_setting (rs : List Request) : (s.setRequests rs).setting = s.setting := rfl
@[simp] theorem State.setRequests_settingValid (rs : List Request) : (s.setRequests rs).settingValid = s.settingValid := rfl
@[simp] theorem State.setRequests_resistance (rs : List Request) : (s.setRequests rs).resistance = s.resistance := rfl
@[simp] theorem State.setRequests_vstate (rs : List Request) : (s.setRequests rs).vstate = s.vstate := rfl
@[simp] theorem State.setRequests_acc (rs : List Request) : (s.setRequests rs).acc = s.acc := rfl
@[simp] theorem State.setRequests_frame (rs : List Request) : (s.setRequests rs).frame = s.frame := rfl
@[simp] theorem State.setRequests_rxMsb (rs : List Request) : (s.setRequests rs).rxMsb = s.rxMsb := rfl
@[simp] theorem State.setRequests_rxLsb (rs : List Request) : (s.setRequests rs).rxLsb = s.rxLsb := rfl
@[simp] theorem State.setRequests_rsp (rs : List Request) : (s.setRequests rs).rsp = s.rsp := rfl
@[simp] theorem State.setRequests_trace (rs : List Request) : (s.setRequests rs).trace = s.trace := rfl
@[simp] theorem State.setRequests_requests (rs : List Request) : (s.setRequests rs).requests = rs := rfl
@[simp] theorem State.setRequests_oracle (rs : List Request) : (s.setRequests rs).oracle = s.oracle := rfl
@[simp] theorem State.setRequests_freeValues (rs : List Request) : (s.setRequests rs).freeValues = s.freeValues := rfl

end Sys2Proof.Machine
end

