-- ==== Sys2Proof/Laws/Ops.lean ====
section
/-! SUPPORT. What each shared operation does, said once: later proofs cite these lemmas instead of unfolding the
operations. -/

namespace Sys2Proof.Machine

open Sys2Proof.Safety

/-! ### Counts -/

theorem WriteAnswers.errors_le (w : WriteAnswers) : w.errors ≤ 3 := by
  unfold Safety.WriteAnswers.errors
  split <;> split <;> split <;> omega

theorem ReadAnswers.errors_le (r : ReadAnswers) : r.errors ≤ 2 := by
  cases r <;> simp [Safety.ReadAnswers.errors]

theorem writeCount_le (s : State) : writeCount s ≤ 3 := WriteAnswers.errors_le _

theorem readCount_le (s : State) : readCount s ≤ 5 := by
  have h1 := writeCount_le s
  have h2 := ReadAnswers.errors_le (readGiven s)
  unfold readCount
  omega

/-- A count of at most 8 survives in the 4 bits of `st.acc`. -/
theorem acc_ofNat_eq_zero {n : Nat} (h : n ≤ 8) : BitVec.ofNat 4 n = 0 ↔ n = 0 := by
  constructor
  · intro h0
    have := congrArg BitVec.toNat h0
    simp at this
    omega
  · rintro rfl
    rfl

/-! ### The write phase -/

theorem writePhase_eq (f : FrameWord) (s : State) :
    writePhase f s = (writeCount s, { afterWrite f s with acc := s.acc }) := by
  simp only [writePhase, transportBegin, transportWrite, transportEnd, State.logCall, State.setFrame, State.setOracle,
    writeCount, afterWrite, writeAnswers, writeEvents, Safety.WriteAnswers.errors, nackCount, statusCount,
    frameMsb, frameLsb, List.append_assoc, List.cons_append, List.nil_append]
  rfl

/-! ### The read phase and the read transaction -/

theorem datumOf_eq (a b : Byte) : datumOf a b = a ++ b := by
  ext i hi
  rw [BitVec.getElem_append]
  by_cases h : i < 8
  · simp [datumOf, h]
  · have hb : b.getLsbD i = false := BitVec.getLsbD_of_ge b i (by omega)
    have ha : a.getLsbD (i - 8) = a[i - 8] := BitVec.getLsbD_eq_getElem (by omega)
    simp [datumOf, h, hb, ha]

/-- What a read phase answers, in terms of the bytes that came. -/
def phaseResult : ReadAnswers → ReadPhaseResult
  | .none => .short 2
  | .one _ => .short 1
  | .two b1 b2 => .datum (b1 ++ b2)

theorem phaseResult_errors (r : ReadAnswers) : (phaseResult r).errors = r.errors := by
  cases r <;> rfl

theorem readPhase_eq (s : State) :
    readPhase s = (phaseResult (readAnswers s.oracle).1,
      { s with
        rxMsb := (readAnswers s.oracle).1.msb s.rxMsb
        rxLsb := (readAnswers s.oracle).1.lsb s.rxLsb
        oracle := (readAnswers s.oracle).2
        trace := s.trace ++ readEvents s.cfg (readAnswers s.oracle).1 }) := by
  simp only [readPhase, transportRequest, transportRead, readAnswers, State.setOracle, State.logCall, State.setRxMsb,
    State.setRxLsb]
  generalize s.oracle.nextCount = k
  obtain ⟨k, o⟩ := k
  match k with
  | 0 => simp [phaseResult, readEvents, Safety.ReadAnswers.msb, Safety.ReadAnswers.lsb]
  | 1 => simp [phaseResult, readEvents, Safety.ReadAnswers.msb, Safety.ReadAnswers.lsb]
  | 2 => simp [phaseResult, readEvents, Safety.ReadAnswers.msb, Safety.ReadAnswers.lsb, datumOf_eq]

/-- What a read transaction answers in state `s`. -/
def txnResult (s : State) : TxnResult :=
  if readCount s = 0 then .data (readDatum s) else .failed (BitVec.ofNat 4 (readCount s))

theorem readTxn_eq (code : Code) (p : BitVec 16) (s : State) :
    readTxn code p s = (txnResult s, afterRead (encodeFrame code p) s) := by
  have hw := writeCount_le s
  have hr := readCount_le s
  have h5 : ∀ n, n ≤ 5 → (BitVec.ofNat 4 n = 0#4 ↔ n = 0) := fun n h => acc_ofNat_eq_zero (by omega)
  simp only [readTxn, writePhase_eq, readPhase_eq, phaseResult_errors, State.setAcc, afterWrite, txnResult, readDatum,
    afterRead]
  have hwc : writeCount ({ s with acc := 0 } : State) = (writeAnswers s.oracle).1.errors := rfl
  have hg : readGiven s = (readAnswers (writeAnswers s.oracle).2).1 := rfl
  have hc : readCount s = (writeAnswers s.oracle).1.errors + (readAnswers (writeAnswers s.oracle).2).1.errors := rfl
  rw [hwc, hg, hc]
  rw [hc] at hr
  generalize readAnswers (writeAnswers s.oracle).2 = r at hr ⊢
  obtain ⟨r, o⟩ := r
  have hacc : (0 + BitVec.ofNat 4 (writeAnswers s.oracle).1.errors + BitVec.ofNat 4 r.errors)
      = BitVec.ofNat 4 ((writeAnswers s.oracle).1.errors + r.errors) := by
    simp [BitVec.ofNat_add]
  cases r with
  | none =>
    simp [phaseResult, Safety.ReadAnswers.errors, BitVec.ofNat_add]
  | one b =>
    simp [phaseResult, Safety.ReadAnswers.errors, BitVec.ofNat_add]
  | two a b =>
    simp only [phaseResult, hacc, Safety.ReadAnswers.msb, Safety.ReadAnswers.lsb, List.append_assoc]
    exact Prod.ext (if_congr (h5 _ hr) rfl rfl) rfl

/-! ### The cache -/

theorem clamp_natCast (cfg : Config) (n : Nat) : clamp cfg n = capped cfg n := by
  unfold clamp capped
  have hmin : cfg.minValue = 0 := rfl
  simp only [hmin]
  split
  · rename_i h
    have : n = 0 := by omega
    simp [this]
  · split
    · rename_i h
      congr 1
      omega
    · rename_i h
      rw [show min n cfg.maxValue = n by omega]
      rfl

theorem maxValue_le (cfg : Config) : cfg.maxValue ≤ 1023 := by
  unfold Config.maxValue
  split <;> decide

theorem clamp_toNat_le (cfg : Config) (v : Int) : (clamp cfg v).toNat ≤ cfg.maxValue := by
  have hm := maxValue_le cfg
  unfold clamp
  split
  · simp [Config.minValue]
  · split
    · simp
      omega
    · rename_i h1 h2
      simp [Config.minValue] at h1
      simp [BitVec.toNat_ofInt]
      omega

theorem setSetting_eq (v : Int) (s : State) : setSetting v s = withCache (clamp s.cfg v) s := rfl

/-! ### XWRITE and XREAD -/

theorem mask_payload (p : Payload) : p.setWidth 16 &&& 0x3FF = p.setWidth 16 := by
  apply BitVec.eq_of_toNat_eq
  have h := Nat.and_two_pow_sub_one_eq_mod p.toNat 10
  simp at h
  simp
  rw [Nat.mod_eq_of_lt (by omega : p.toNat < 65536), h]
  omega

theorem encodeFrame_rdacWrite (p : Payload) :
    encodeFrame Command.rdacWrite.code (p.setWidth 16) = 0x0400 ||| p.setWidth 16 := by
  simp only [encodeFrame, mask_payload]
  rfl

theorem refreshAfterWrite_eq (p : Payload) (s : State) :
    refreshAfterWrite (p.setWidth 16) s = (BitVec.ofNat 3 (readCount s), refreshed p s) := by
  have hp : ((p.setWidth 16).toNat : Int) = (p.toNat : Int) := by simp; omega
  have h5 := readCount_le s
  have hf : encodeFrame Command.rdacRead.code 0 = 0x0800 := by decide
  have hc : readCount (withCache (capped s.cfg p.toNat) s) = readCount s := rfl
  simp only [refreshAfterWrite, readTxn_eq, setSetting_eq, hp, clamp_natCast, txnResult, refreshed, hf, hc]
  by_cases h : readCount s = 0
  · simp [h, datumPayload]
    rfl
  · have : ((BitVec.ofNat 4 (readCount s)).setWidth 3) = BitVec.ofNat 3 (readCount s) := by
      apply BitVec.eq_of_toNat_eq
      simp
    simp [h, this]

/-- XWRITE's answer and state when the request is rejected (R141). -/
theorem xwrite_rejected {code : Code} {payload : BitVec 16} {s : State}
    (h : (!writable s.cfg code || payloadOverflows payload) = true) :
    xwrite code payload s = (.rejected (!writable s.cfg code) (payloadOverflows payload), s) := by
  simp only [xwrite]
  rw [if_pos h]

/-- XWRITE of an admitted command other than RDAC_WRITE: one write phase (R140). -/
theorem xwrite_plain {code : Code} {payload : BitVec 16} {s : State}
    (h : (!writable s.cfg code || payloadOverflows payload) = false) (hc : code ≠ Command.rdacWrite.code) :
    xwrite code payload s =
      (if writeCount s = 0 then .ok 0 else .failed (BitVec.ofNat 4 (writeCount s)),
       afterWrite (encodeFrame code (writePayload code payload)) s) := by
  have h8 : writeCount s ≤ 8 := le_trans (writeCount_le s) (by decide)
  simp only [xwrite]
  rw [if_neg (by simp [h])]
  simp only [writePhase_eq, State.setAcc, if_neg hc, afterWrite]
  by_cases h0 : writeCount s = 0
  · rw [if_neg (by simp [h0]), if_pos h0]
    rfl
  · have : BitVec.ofNat 4 (writeCount s) ≠ 0 := fun hz => h0 ((acc_ofNat_eq_zero h8).1 hz)
    simp only [this, h0, ne_eq, not_false_eq_true, if_true, if_false]
    rfl

/-- XWRITE of RDAC_WRITE with a 10-bit payload: the write phase, and the refresh when it was clean (R140, R152). -/
theorem xwrite_wiper (p : Payload) (s : State) :
    xwrite Command.rdacWrite.code (p.setWidth 16) s =
      (if writeCount s = 0 then
        (.ok (BitVec.ofNat 3 (readCount (afterWrite (0x0400 ||| p.setWidth 16) s))),
         refreshed p (afterWrite (0x0400 ||| p.setWidth 16) s))
       else (.failed (BitVec.ofNat 4 (writeCount s)), afterWrite (0x0400 ||| p.setWidth 16) s)) := by
  have h8 : writeCount s ≤ 8 := le_trans (writeCount_le s) (by decide)
  have hadm : (!writable s.cfg Command.rdacWrite.code || payloadOverflows (p.setWidth 16)) = false := by
    simp [writable, Command.ofCode, Command.code, direction, payloadOverflows]
    omega
  have hp : writePayload Command.rdacWrite.code (p.setWidth 16) = p.setWidth 16 := by
    exact mask_payload p
  simp only [xwrite]
  rw [if_neg (by simp [hadm])]
  simp only [writePhase_eq, State.setAcc, hp, encodeFrame_rdacWrite, if_true]
  have ha : ({ afterWrite (0x0400 ||| p.setWidth 16) s with acc := BitVec.ofNat 4 (writeCount s) } : State)
      = afterWrite (0x0400 ||| p.setWidth 16) s := rfl
  by_cases h0 : writeCount s = 0
  · simp only [h0] at ha ⊢
    simp only [BitVec.ofNat_eq_ofNat, ne_eq, not_true_eq_false, if_false, if_true]
    simp only [BitVec.ofNat_eq_ofNat] at ha
    rw [ha, refreshAfterWrite_eq]
  · have : BitVec.ofNat 4 (writeCount s) ≠ 0 := fun hz => h0 ((acc_ofNat_eq_zero h8).1 hz)
    simp only [this, h0, ne_eq, not_false_eq_true, if_true, if_false]
    rw [ha]

/-- XREAD's answer and state when the request is rejected (R149). -/
theorem xread_rejected {code : Code} {payload : BitVec 16} {s : State}
    (h : (!readable code || readDataRejected code payload) = true) :
    xread code payload s = (.rejected (!readable code) (readDataRejected code payload), s) := by
  simp only [xread]
  rw [if_pos h]

/-- XREAD of an admitted command: one read transaction (R148). -/
theorem xread_admitted {code : Code} {payload : BitVec 16} {s : State}
    (h : (!readable code || readDataRejected code payload) = false) :
    xread code payload s =
      (if readCount s = 0 then .ok (readDatum s) else .failed (BitVec.ofNat 4 (readCount s)),
       afterRead (encodeFrame code (readPayload code payload)) s) := by
  simp only [xread]
  rw [if_neg (by simp [h])]
  simp only [readTxn_eq, txnResult]
  by_cases h0 : readCount s = 0 <;> simp [h0]

end Sys2Proof.Machine
end

