-- ==== Sys2Proof/Laws/PerInstr.lean ====
section
/-! SUPPORT. Statements about every instruction as syntax, one lemma per constructor. `RowFormat`: the word an
instruction encodes to carries the fixed bits of its row of spec/opcode_table.json. -/

namespace Sys2Proof.Laws

/-- The fixed bits of a `FRAME16` row: 15:14 are 0 and 13:10 are the command code (mask 0xFC00). -/
def frameRow (w : FrameWord) (c : Nat) : Prop := frameTop w = 0 ∧ (frameCode w).toNat = c

/-- The fixed bits of a `REQ` row: 40:36 are the operation number (mask 0x1F000000000). -/
def reqRow (w : ReqWord) (op : Nat) : Prop := (reqOp w).toNat = op

/-- The format and the fixed bits of each row. -/
def RowFormat.Statement : Instr → Prop
  | .nop p => ∃ w, Sys2Proof.encode (.nop p) = .frame w ∧ frameRow w 0
  | .rdacWrite p => ∃ w, Sys2Proof.encode (.rdacWrite p) = .frame w ∧ frameRow w 1
  | .rdacRead p => ∃ w, Sys2Proof.encode (.rdacRead p) = .frame w ∧ frameRow w 2
  | .tpWrite p => ∃ w, Sys2Proof.encode (.tpWrite p) = .frame w ∧ frameRow w 3
  | .rdacRefresh p => ∃ w, Sys2Proof.encode (.rdacRefresh p) = .frame w ∧ frameRow w 4
  | .tpWiperRead p => ∃ w, Sys2Proof.encode (.tpWiperRead p) = .frame w ∧ frameRow w 5
  | .tpLastUsed p => ∃ w, Sys2Proof.encode (.tpLastUsed p) = .frame w ∧ frameRow w 6
  | .controlWrite p => ∃ w, Sys2Proof.encode (.controlWrite p) = .frame w ∧ frameRow w 7
  | .controlRead p => ∃ w, Sys2Proof.encode (.controlRead p) = .frame w ∧ frameRow w 8
  | .shutdown p => ∃ w, Sys2Proof.encode (.shutdown p) = .frame w ∧ frameRow w 9
  | .encode cmd payload => ∃ w, Sys2Proof.encode (.encode cmd payload) = .req w ∧ reqRow w 0x00
  | .decode word => ∃ w, Sys2Proof.encode (.decode word) = .req w ∧ reqRow w 0x01
  | .xwrite cmd payload => ∃ w, Sys2Proof.encode (.xwrite cmd payload) = .req w ∧ reqRow w 0x02
  | .xread cmd payload => ∃ w, Sys2Proof.encode (.xread cmd payload) = .req w ∧ reqRow w 0x03
  | .clamp raw => ∃ w, Sys2Proof.encode (.clamp raw) = .req w ∧ reqRow w 0x04
  | .tores raw => ∃ w, Sys2Proof.encode (.tores raw) = .req w ∧ reqRow w 0x05
  | .fromres target => ∃ w, Sys2Proof.encode (.fromres target) = .req w ∧ reqRow w 0x06
  | .inc => ∃ w, Sys2Proof.encode .inc = .req w ∧ reqRow w 0x07
  | .dec => ∃ w, Sys2Proof.encode .dec = .req w ∧ reqRow w 0x08
  | .verify control => ∃ w, Sys2Proof.encode (.verify control) = .req w ∧ reqRow w 0x09
  | .beginOp => ∃ w, Sys2Proof.encode .beginOp = .req w ∧ reqRow w 0x0A
  | .setset v => ∃ w, Sys2Proof.encode (.setset v) = .req w ∧ reqRow w 0x0B
  | .getset => ∃ w, Sys2Proof.encode .getset = .req w ∧ reqRow w 0x0C
  | .setres t => ∃ w, Sys2Proof.encode (.setres t) = .req w ∧ reqRow w 0x0D
  | .getres => ∃ w, Sys2Proof.encode .getres = .req w ∧ reqRow w 0x0E
  | .shutdn p => ∃ w, Sys2Proof.encode (.shutdn p) = .req w ∧ reqRow w 0x0F
  | .enwiper => ∃ w, Sys2Proof.encode .enwiper = .req w ∧ reqRow w 0x10

theorem packFrame_row (c : Command) (p : Payload) : frameRow (packFrame c p) c.code.toNat := by
  simp [frameRow, frameTop_packFrame, frameCode_packFrame]

theorem packReq_row (op : BitVec 5) (cmd : Code) (arg : BitVec 32) : reqRow (packReq op cmd arg) op.toNat := by
  simp [reqRow, reqOp_packReq]

theorem RowFormat.nop (p : Payload) : RowFormat.Statement (.nop p) := ⟨_, rfl, packFrame_row .nop p⟩

theorem RowFormat.rdacWrite (p : Payload) : RowFormat.Statement (.rdacWrite p) := ⟨_, rfl, packFrame_row .rdacWrite p⟩

theorem RowFormat.rdacRead (p : Payload) : RowFormat.Statement (.rdacRead p) := ⟨_, rfl, packFrame_row .rdacRead p⟩

theorem RowFormat.tpWrite (p : Payload) : RowFormat.Statement (.tpWrite p) := ⟨_, rfl, packFrame_row .tpWrite p⟩

theorem RowFormat.rdacRefresh (p : Payload) : RowFormat.Statement (.rdacRefresh p) := ⟨_, rfl, packFrame_row .rdacRefresh p⟩

theorem RowFormat.tpWiperRead (p : Payload) : RowFormat.Statement (.tpWiperRead p) := ⟨_, rfl, packFrame_row .tpWiperRead p⟩

theorem RowFormat.tpLastUsed (p : Payload) : RowFormat.Statement (.tpLastUsed p) := ⟨_, rfl, packFrame_row .tpLastUsed p⟩

theorem RowFormat.controlWrite (p : Payload) : RowFormat.Statement (.controlWrite p) := ⟨_, rfl, packFrame_row .controlWrite p⟩

theorem RowFormat.controlRead (p : Payload) : RowFormat.Statement (.controlRead p) := ⟨_, rfl, packFrame_row .controlRead p⟩

theorem RowFormat.shutdown (p : Payload) : RowFormat.Statement (.shutdown p) := ⟨_, rfl, packFrame_row .shutdown p⟩

theorem RowFormat.encode (cmd : Code) (payload : BitVec 16) : RowFormat.Statement (.encode cmd payload) := ⟨_, rfl, packReq_row 0x00 _ _⟩

theorem RowFormat.decode (word : BitVec 16) : RowFormat.Statement (.decode word) := ⟨_, rfl, packReq_row 0x01 _ _⟩

theorem RowFormat.xwrite (cmd : Code) (payload : BitVec 16) : RowFormat.Statement (.xwrite cmd payload) := ⟨_, rfl, packReq_row 0x02 _ _⟩

theorem RowFormat.xread (cmd : Code) (payload : BitVec 16) : RowFormat.Statement (.xread cmd payload) := ⟨_, rfl, packReq_row 0x03 _ _⟩

theorem RowFormat.clamp (raw : BitVec 32) : RowFormat.Statement (.clamp raw) := ⟨_, rfl, packReq_row 0x04 _ _⟩

theorem RowFormat.tores (raw : BitVec 10) : RowFormat.Statement (.tores raw) := ⟨_, rfl, packReq_row 0x05 _ _⟩

theorem RowFormat.fromres (target : BitVec 32) : RowFormat.Statement (.fromres target) := ⟨_, rfl, packReq_row 0x06 _ _⟩

theorem RowFormat.inc : RowFormat.Statement .inc := ⟨_, rfl, packReq_row 0x07 _ _⟩

theorem RowFormat.dec : RowFormat.Statement .dec := ⟨_, rfl, packReq_row 0x08 _ _⟩

theorem RowFormat.verify (control : BitVec 8) : RowFormat.Statement (.verify control) := ⟨_, rfl, packReq_row 0x09 _ _⟩

theorem RowFormat.beginOp : RowFormat.Statement .beginOp := ⟨_, rfl, packReq_row 0x0A _ _⟩

theorem RowFormat.setset (v : BitVec 32) : RowFormat.Statement (.setset v) := ⟨_, rfl, packReq_row 0x0B _ _⟩

theorem RowFormat.getset : RowFormat.Statement .getset := ⟨_, rfl, packReq_row 0x0C _ _⟩

theorem RowFormat.setres (t : BitVec 32) : RowFormat.Statement (.setres t) := ⟨_, rfl, packReq_row 0x0D _ _⟩

theorem RowFormat.getres : RowFormat.Statement .getres := ⟨_, rfl, packReq_row 0x0E _ _⟩

theorem RowFormat.shutdn (p : BitVec 16) : RowFormat.Statement (.shutdn p) := ⟨_, rfl, packReq_row 0x0F _ _⟩

theorem RowFormat.enwiper : RowFormat.Statement .enwiper := ⟨_, rfl, packReq_row 0x10 _ _⟩

end Sys2Proof.Laws
end

