-- ==== Sys2Proof/Tests/Slice0.lean ====
section
/-! SUPPORT. Small tests of the model. Expected values are transcribed from spec/95_test_vectors.md (section given in
each comment), from the worked examples of the rules, or worked by hand from the encoding tables. -/

namespace Sys2Proof.Tests

open Sys2Proof.Machine Sys2Proof.Safety

/-! ### Helpers -/

/-- The configuration of spec/95_test_vectors.md: 10 bits, 20000 ohms, 0x2F, the default parameters. -/
def cfg10 : Config := { res := .bits10, fullScale := .ohms20000, strap := .grounded }

/-- An 8-bit part of 50000 ohms at 0x2C. -/
def cfg8 : Config := { res := .bits8, fullScale := .ohms50000, strap := .tiedHigh }

/-- An oracle that answers "all well" and delivers the two given bytes. -/
def allWell (b1 b2 : Byte) : Oracle := ⟨[true, true, true, true, true, true], [0, 0, 0], [2], [b1, b2], 0⟩

/-- The state after reset of the given part, with the given oracle. -/
def fresh (cfg : Config) (o : Oracle) : State := { State.reset with cfg := cfg, oracle := o }

/-- A fresh state whose cache holds a setting. -/
def cached (cfg : Config) (v : Setting) (o : Oracle) : State :=
  { fresh cfg o with setting := v, settingValid := true, resistance := toRes cfg v }

/-- One view of the next state, none where there is no next state. -/
def view {α : Type} (o : Host.Outcome State Fault Refusal) (f : State → α) : Option α :=
  match o with
  | .next t => some (f t)
  | _ => none

/-- The response's kind, value and count. -/
def answer (s : State) : Option (Kind × Nat × Nat) := s.rsp.map fun r => (r.kind, r.value.toNat, r.count.toNat)

/-- The rejection flags. -/
def rejFlags (s : State) : Option (Bool × Bool × Bool) := s.rsp.map fun r => (r.rejCmd, r.rejData, r.rejState)

/-- The cached setting and resistance. -/
def cache (s : State) : Nat × Nat := (s.setting.toNat, s.resistance.toNat)

/-! ### Decoding: each row's word written out from R81, R84 (frames) and R98, R99 (requests) -/

theorem test_decode_nop : decode (.frame 0b0000000000000001) = .ok (.nop 1) := by decide
theorem test_decode_rdacWrite : decode (.frame 0b0000011000000000) = .ok (.rdacWrite 0x200) := by decide
theorem test_decode_rdacRead : decode (.frame 0b0000101111111111) = .ok (.rdacRead 0x3FF) := by decide
theorem test_decode_tpWrite : decode (.frame 0b0000110101010101) = .ok (.tpWrite 0x155) := by decide
theorem test_decode_rdacRefresh : decode (.frame 0b0001000000000000) = .ok (.rdacRefresh 0) := by decide
theorem test_decode_tpWiperRead : decode (.frame 0b0001010000011001) = .ok (.tpWiperRead 0x19) := by decide
theorem test_decode_tpLastUsed : decode (.frame 0b0001100000000111) = .ok (.tpLastUsed 7) := by decide
theorem test_decode_controlWrite : decode (.frame 0b0001110000000010) = .ok (.controlWrite 2) := by decide
theorem test_decode_controlRead : decode (.frame 0b0010000000000000) = .ok (.controlRead 0) := by decide
theorem test_decode_shutdown : decode (.frame 0b0010010000000001) = .ok (.shutdown 1) := by decide
theorem test_decode_encode : decode (.req 0x001000007FF) = .ok (.encode 1 0x7FF) := by decide
theorem test_decode_decode : decode (.req 0x01000000600) = .ok (.decode 0x600) := by decide
theorem test_decode_xwrite : decode (.req 0x02100000400) = .ok (.xwrite 1 0x400) := by decide
theorem test_decode_xread : decode (.req 0x03500000019) = .ok (.xread 5 0x19) := by decide
theorem test_decode_clamp : decode (.req 0x040FFFFFFFF) = .ok (.clamp 0xFFFFFFFF) := by decide
theorem test_decode_tores : decode (.req 0x05000000200) = .ok (.tores 512) := by decide
theorem test_decode_fromres : decode (.req 0x060000061A8) = .ok (.fromres 25000) := by decide
theorem test_decode_inc : decode (.req 0x07000000000) = .ok .inc := by decide
theorem test_decode_dec : decode (.req 0x08000000000) = .ok .dec := by decide
theorem test_decode_verify : decode (.req 0x09000000002) = .ok (.verify 2) := by decide
theorem test_decode_begin : decode (.req 0x0A000000000) = .ok .beginOp := by decide
theorem test_decode_setset : decode (.req 0x0B0FFFFFFFB) = .ok (.setset 0xFFFFFFFB) := by decide
theorem test_decode_getset : decode (.req 0x0C000000000) = .ok .getset := by decide
theorem test_decode_setres : decode (.req 0x0D000002710) = .ok (.setres 10000) := by decide
theorem test_decode_getres : decode (.req 0x0E000000000) = .ok .getres := by decide
theorem test_decode_shutdn : decode (.req 0x0F000000001) = .ok (.shutdn 1) := by decide
theorem test_decode_enwiper : decode (.req 0x10000000000) = .ok .enwiper := by decide

/-- R99 and R100: unused fields are ignored. -/
theorem test_decode_ignores_unused : decode (.req 0x07FFFFFFFFF) = .ok .inc := by decide
/-- R103. -/
theorem test_decode_reserved_op : decode (.req 0x11000000000) = .error (.reservedOp 0x11) := by decide
/-- R90. -/
theorem test_decode_reserved_code : decode (.frame 0x2800) = .error (.reservedCode 0xA) := by decide
/-- R80. -/
theorem test_decode_top_bits : decode (.frame 0xC7FF) = .error (.topBits 3) := by decide
theorem test_table_frame : decodeTableWord 16 0x1C02 = some (.controlWrite 2) := by decide
theorem test_table_request : decodeTableWord 48 0x02100000200 = some (.xwrite 1 0x200) := by decide
theorem test_table_reserved : decodeTableWord 48 0x1F000000000 = none := by decide

/-! ### WellFormed: an ill-formed term for each check (R87, R90) -/

theorem test_ill_nop : (Instr.nop 1).wellFormed = false := by decide
theorem test_ill_rdacRead : (Instr.rdacRead 1).wellFormed = false := by decide
theorem test_ill_tpWrite : (Instr.tpWrite 0x155).wellFormed = false := by decide
theorem test_ill_rdacRefresh : (Instr.rdacRefresh 1).wellFormed = false := by decide
theorem test_ill_tpWiperRead : (Instr.tpWiperRead 0x40).wellFormed = false := by decide
theorem test_ill_tpLastUsed : (Instr.tpLastUsed 7).wellFormed = false := by decide
theorem test_ill_controlRead : (Instr.controlRead 1).wellFormed = false := by decide
theorem test_ill_encode : (Instr.encode 0xA 0).wellFormed = false := by decide
theorem test_ill_xwrite : (Instr.xwrite 0xC 0).wellFormed = false := by decide
theorem test_ill_xread : (Instr.xread 0xF 0).wellFormed = false := by decide
theorem test_well_location : (Instr.tpWiperRead 0x3F).wellFormed = true := by decide

/-! ### Codec (2.2, 2.3) -/

theorem test_encode_ok : view (exec (.encode 3 0x155) (fresh cfg10 (allWell 0 0))) answer = some (some (.ok, 0x0D55, 0)) := by
  decide
theorem test_encode_both_flags :
    view (exec (.encode 0xF 0x400) (fresh cfg10 (allWell 0 0))) (fun t => (answer t, rejFlags t)) =
      some (some (.rejected, 0x3C00, 0), some (true, true, false)) := by decide
/-- Code 1, payload 0x3FF, known: 0x4000 + 0x400 + 0x3FF. -/
theorem test_decode_ignores_top_bits :
    view (exec (.decode 0xC7FF) (fresh cfg10 (allWell 0 0))) answer = some (some (.ok, 0x47FF, 0)) := by decide
/-- Code 15, not known. -/
theorem test_decode_unknown_code :
    view (exec (.decode 0xFFFF) (fresh cfg10 (allWell 0 0))) answer = some (some (.ok, 0x3FFF, 0)) := by decide

/-! ### Mapper (3.1 to 3.3) -/

theorem test_clamp_negative :
    view (exec (.clamp 0xFFFFFFFF) (fresh cfg10 (allWell 0 0))) answer = some (some (.ok, 0, 0)) := by decide
theorem test_clamp_8bit : view (exec (.clamp 300) (fresh cfg8 (allWell 0 0))) answer = some (some (.ok, 255, 0)) := by
  decide
theorem test_tores_512 : view (exec (.tores 512) (fresh cfg10 (allWell 0 0))) answer = some (some (.ok, 10010, 0)) := by
  decide
/-- 3.4: the input that tells exact arithmetic from single precision, 50000 ohms. -/
theorem test_tores_584 : view (exec (.tores 584) (fresh cfg8 (allWell 0 0))) answer = some (some (.ok, 28543, 0)) := by
  decide
theorem test_fromres_19971 :
    view (exec (.fromres 19971) (fresh cfg10 (allWell 0 0))) answer = some (some (.ok, 1023, 0)) := by decide
theorem test_fromres_8bit_12426 :
    view (exec (.fromres 12426) (fresh cfg8 (allWell 0 0))) answer = some (some (.ok, 254, 0)) := by decide
/-- 6.1 row 2. -/
theorem test_inc_512 :
    view (exec .inc (cached cfg10 512 (allWell 2 1))) (fun t => (cache t, framesSent t.trace)) =
      some ((513, 10029), [0x0601, 0x0800]) := by decide
/-- 6.1 row 3. -/
theorem test_inc_saturates :
    view (exec .inc (cached cfg10 1023 (allWell 3 0xFF))) (fun t => (cache t, framesSent t.trace)) =
      some ((1023, 20000), [0x07FF, 0x0800]) := by decide
/-- 6.1 row 4. -/
theorem test_dec_zero :
    view (exec .dec (cached cfg10 0 (allWell 0 0))) (fun t => (cache t, framesSent t.trace)) =
      some ((0, 0), [0x0400, 0x0800]) := by decide
theorem test_dec_after_reset :
    view (exec .dec (fresh cfg10 (allWell 0 0))) (fun t => (answer t, rejFlags t)) =
      some (some (.rejected, 0, 0), some (false, false, true)) := by decide

/-! ### Executor (4.2, 4.3) -/

/-- 4.2 row 3: the read-back wins. -/
theorem test_xwrite_read_back_wins :
    view (exec (.xwrite 1 0x200) (fresh cfg10 (allWell 1 0xFF))) (fun t => (answer t, cache t, t.trace.length)) =
      some (some (.ok, 0, 0), (511, 9990), 11) := by decide
/-- 4.2 row 2, S10: the second byte is not acknowledged. -/
theorem test_xwrite_second_nack :
    view (exec (.xwrite 1 0x200) (fresh cfg10 ⟨[true, false], [0], [], [], 0⟩)) (fun t => (answer t, t.trace)) =
      some (some (.failed, 0, 1),
        [.beginTx 0x2F, .writeByte 0x06 true, .writeByte 0x00 false, .endTx true 0]) := by decide
/-- 4.3 row 4: a short read. -/
theorem test_xread_short :
    view (exec (.xread 8 0) (fresh cfg10 ⟨[true, true], [0], [1], [0xAA], 0⟩))
      (fun t => (t.rsp.map (·.count.toNat), t.trace)) =
      some (some 1, [.beginTx 0x2F, .writeByte 0x20 true, .writeByte 0x00 true, .endTx true 0,
        .requestBytes 0x2F 2 true 1, .readByte 0xAA]) := by decide
/-- 4.3 row 8: a datum with bit 15 set is data. -/
theorem test_xread_wide_datum :
    view (exec (.xread 2 0) (fresh cfg10 (allWell 0x80 0x01))) (fun t => (answer t, t.rsp.map Response.legacy)) =
      some (some (.ok, 0x8001, 0), some 32769) := by decide

/-! ### Wire commands (4.1) -/

theorem test_nop_rejected :
    view (exec (.nop 0) (fresh cfg10 (allWell 0 0))) (fun t => (rejFlags t, t.trace)) =
      some (some (true, false, false), []) := by decide
/-- 4.2 row 10. -/
theorem test_nop_writable :
    view (exec (.nop 0) (fresh { cfg10 with nopWritable := true } (allWell 0 0)))
      (fun t => (answer t, framesSent t.trace)) = some (some (.ok, 0, 0), [0x0000]) := by decide
/-- 4.2 row 4: the refresh fails, the requested value stands. -/
theorem test_rdacWrite_short_refresh :
    view (exec (.rdacWrite 0x200) (fresh cfg10 ⟨[true, true, true, true], [0, 0], [1], [2], 0⟩))
      (fun t => (cache t, t.rsp.map (·.refreshCount.toNat))) = some ((512, 10010), some 1) := by decide
theorem test_rdacRead_payload_ignored :
    view (exec (.rdacRead 0x155) (fresh cfg10 (allWell 3 0xFF))) (fun t => (answer t, framesSent t.trace)) =
      some (some (.ok, 0x03FF, 0), [0x0800]) := by decide
theorem test_tpWrite_payload_dropped :
    view (exec (.tpWrite 0x155) (fresh cfg10 (allWell 0 0))) (fun t => framesSent t.trace) = some [0x0C00] := by decide
theorem test_rdacRefresh_frame :
    view (exec (.rdacRefresh 0) (fresh cfg10 (allWell 0 0))) (fun t => framesSent t.trace) = some [0x1000] := by decide
theorem test_tpWiperRead_location :
    view (exec (.tpWiperRead 0x3F) (fresh cfg10 (allWell 0 0x19))) (fun t => (answer t, framesSent t.trace)) =
      some (some (.ok, 0x19, 0), [0x143F]) := by decide
theorem test_tpWiperRead_wide :
    view (exec (.tpWiperRead 0x40) (fresh cfg10 (allWell 0 0))) (fun t => (rejFlags t, t.trace)) =
      some (some (false, true, false), []) := by decide
theorem test_tpLastUsed_frame :
    view (exec (.tpLastUsed 7) (fresh cfg10 (allWell 0 7))) (fun t => (answer t, framesSent t.trace)) =
      some (some (.ok, 7, 0), [0x1800]) := by decide
theorem test_controlWrite_not_masked :
    view (exec (.controlWrite 0x3FF) (fresh cfg10 (allWell 0 0))) (fun t => framesSent t.trace) = some [0x1FFF] := by
  decide
/-- 4.2 row 6. -/
theorem test_controlWrite_all_fail :
    view (exec (.controlWrite 2) (fresh cfg10 ⟨[false, false], [2], [], [], 0⟩)) answer = some (some (.failed, 0, 3)) := by
  decide
theorem test_controlRead_frame :
    view (exec (.controlRead 0) (fresh cfg10 (allWell 0 2))) (fun t => (answer t, framesSent t.trace)) =
      some (some (.ok, 2, 0), [0x2000]) := by decide
theorem test_shutdown_frame :
    view (exec (.shutdown 1) (fresh cfg10 (allWell 0 0))) (fun t => framesSent t.trace) = some [0x2401] := by decide

/-! ### Verifier (section 5) -/

/-- 5.4: all eight bits are compared. -/
theorem test_verify_mismatch :
    view (exec (.verify 2) (fresh cfg10 (allWell 0 0x0A)))
      (fun t => (answer t, t.rsp.map (·.mismatch), framesSent t.trace, t.vstate)) =
      some (some (.failed, 0, 1), some true, [0x1C02, 0x2000], .idle) := by decide
/-- 5.10. -/
theorem test_verify_range :
    view (exec (.verify 0xFF) (fresh cfg10 (allWell 0 7))) (fun t => (answer t, t.rsp.map (·.rangeFlag), framesSent t.trace)) =
      some (some (.ok, 0, 0), some true, [0x1C07, 0x2000]) := by decide

/-! ### Composite operations (6.2) -/

/-- Row 2. -/
theorem test_begin_8bit :
    view (exec .beginOp (fresh { cfg8 with fullScale := .ohms100000 } (allWell 0 0xFF)))
      (fun t => (answer t, cache t, framesSent t.trace)) =
      some (some (.ok, 0, 0), (255, 24927), [0x1C02, 0x04FF, 0x0800]) := by decide
/-- Row 5. -/
theorem test_begin_all_fail :
    view (exec .beginOp (fresh cfg10 ⟨[false, false, false, false], [2, 2], [], [], 0⟩))
      (fun t => (answer t, cache t, t.trace.length)) = some (some (.failed, 0, 6), (1023, 20000), 8) := by decide
/-- Row 8. -/
theorem test_setset_negative :
    view (exec (.setset 0xFFFFFFFB) (fresh cfg10 (allWell 0 0))) (fun t => (cache t, framesSent t.trace)) =
      some ((0, 0), [0x0400, 0x0800]) := by decide
/-- Row 10, at 50000 ohms: the read-back 0x3FF is clamped to 255. -/
theorem test_setset_8bit_read_back :
    view (exec (.setset 100) (fresh cfg8 (allWell 0x0F 0xFF))) (fun t => (cache t, framesSent t.trace)) =
      some ((255, 12463), [0x0464, 0x0800]) := by decide
/-- Row 13. -/
theorem test_getset_512 :
    view (exec .getset (cached cfg10 512 (allWell 0 0))) answer = some (some (.ok, 512, 0)) := by decide
/-- Row 15. -/
theorem test_getset_after_reset :
    view (exec .getset (fresh cfg10 (allWell 0 0))) rejFlags = some (some (false, false, true)) := by decide
/-- Row 11, S7. -/
theorem test_setres_10000 :
    view (exec (.setres 10000) (fresh cfg10 (allWell 2 0))) (fun t => (cache t, framesSent t.trace)) =
      some ((512, 10010), [0x0600, 0x0800]) := by decide
/-- Row 14. -/
theorem test_getres_512 :
    view (exec .getres (cached cfg10 512 (allWell 0 0))) answer = some (some (.ok, 10010, 0)) := by decide
/-- Row 17. -/
theorem test_shutdn_wide :
    view (exec (.shutdn 0x400) (fresh cfg10 (allWell 0 0))) (fun t => (answer t, rejFlags t)) =
      some (some (.rejected, 0, 0), some (false, true, false)) := by decide
/-- Row 19. -/
theorem test_enwiper_bad_status :
    view (exec .enwiper (fresh cfg10 ⟨[true, true], [3], [], [], 0⟩)) (fun t => (answer t, framesSent t.trace)) =
      some (some (.failed, 0, 1), [0x1C02]) := by decide

/-! ### The step -/

/-- A state with one request on the port. -/
def presenting (r : Request) : State := { fresh cfg10 (allWell 2 0) with requests := [r] }

theorem test_step_runs : view (step (presenting (.req 0x05000000200))) answer = some (some (.ok, 10010, 0)) := by decide
theorem test_step_reserved : view (step (presenting (.req 0x11000000000))) rejFlags = some (some (true, false, false)) := by
  decide
theorem test_step_not_a_frame :
    (match step (presenting (.frame 0xC7FF)) with | .refused (.notAFrame b) => b == 3 | _ => false) = true := by decide
theorem test_fetch_word :
    view (step ((fresh cfg10 (allWell 0 2)).withFetchWord 48 0x09000000002)) (fun t => (answer t, t.requests)) =
      some (some (.ok, 0, 0), []) := by decide

/-! ### Witnesses: for each statement with hypotheses, a state and operands that meet them -/

theorem witness_EncodeRestoresTheDecodedBits :
    decode (.frame 0x27FF) = .ok (.shutdown 0x3FF) ∧ decode (.req 0x10FFFFFFFFF) = .ok .enwiper := by decide
theorem witness_DecodeOfEncodedFrame : (0x3FF : BitVec 16).toNat ≤ 0x3FF := by decide
theorem witness_EncodeRejectsWidePayload : 0x3FF < (0x400 : BitVec 16).toNat := by decide
theorem witness_ClampIdempotentMonotone : (-1 : Int) ≤ 1024 := by decide
theorem witness_ToResStrictlyIncreasing : (1022 : Setting) < 1023 := by decide
theorem witness_RoundHazRoundsQuotient : 0 < 1023 ∧ (0 : Int) ≤ 0 ∧ (-1 : Int) < 0 := by decide
theorem witness_MapperMeetsNoTie : (0 : Nat) ≤ cfg10.rfsOhms ∧ (20000 : Nat) ≤ cfg10.rfsOhms := by decide
theorem witness_RoundTripWithinOneAndAHalfSteps : cfg10.res = .bits10 ∧ (20000 : Nat) ≤ cfg10.rfsOhms := by decide
theorem witness_IncDecWriteNeighbour :
    (fresh cfg10 (allWell 0 0)).settingValid = false ∧ (cached cfg10 1023 (allWell 0 0)).settingValid = true ∧
    (cached cfg10 0 (allWell 0 0)).settingValid = true := by decide
theorem witness_XwriteCompletes :
    (0x3FF : BitVec 16).toNat ≤ 0x3FF ∧
    (fresh { cfg10 with nopWritable := true } (allWell 0 0)).cfg.nopWritable = true := by decide
/-- Code 2 is not writable; 0x400 is the least payload that overflows. -/
theorem witness_XwriteRejects :
    (!((2 : Code) == 0x1 || (2 : Code) == 0x3 || (2 : Code) == 0x4 || (2 : Code) == 0x7 || (2 : Code) == 0x9 ||
      ((2 : Code) == 0x0 && cfg10.nopWritable))) = true ∧ 0x3FF < (0x400 : BitVec 16).toNat := by decide
theorem witness_XreadCompletes : (0x3FF : BitVec 16).toNat ≤ 0x3FF ∧ (0x3F : BitVec 16).toNat ≤ 0x3F := by decide
/-- Code 1 is not readable; 0x40 is the least location that overflows. -/
theorem witness_XreadRejects :
    (!((1 : Code) == 0x2 || (1 : Code) == 0x5 || (1 : Code) == 0x6 || (1 : Code) == 0x8)) = true ∧
    ((5 : Code) == 0x5 && decide (0x3F < (0x40 : BitVec 16).toNat)) = true := by decide
theorem witness_SignedViewTellsReadsApart :
    view (exec (.xread 2 0) (fresh cfg10 (allWell 3 0xFF))) (fun t => t.rsp.isSome) = some true := by decide
theorem witness_ScriptAnswersAreUsed :
    (allWell 1 2).acks = [true, true, true, true, true, true] ∧ (allWell 1 2).statuses = [0, 0, 0] ∧
    (allWell 1 2).counts = [2] ∧ (allWell 1 2).bytes = [1, 2] ∧
    (⟨[], [], [0], [], 0⟩ : Oracle).counts = [0] ∧
    (⟨[], [], [1], [0xAA], 0⟩ : Oracle).counts = [1] ∧ (⟨[], [], [1], [0xAA], 0⟩ : Oracle).bytes = [0xAA] := by decide
theorem witness_WireReadsComplete : (0x3F : Payload).toNat ≤ 0x3F := by decide
theorem witness_WiperReadRejectsWideLocation : 0x3F < (0x40 : Payload).toNat := by decide
theorem witness_NopFollowsConfiguration :
    (fresh { cfg10 with nopWritable := true } (allWell 0 0)).cfg.nopWritable = true ∧
    (fresh cfg10 (allWell 0 0)).cfg.nopWritable = false := by decide
theorem witness_GetOperationsAnswerCache :
    (cached cfg10 512 (allWell 0 0)).settingValid = true ∧ (fresh cfg10 (allWell 0 0)).settingValid = false := by decide
theorem witness_ShutdnAndEnwiperWriteFrames :
    (0x3FF : BitVec 16).toNat ≤ 0x3FF ∧ 0x3FF < (0x400 : BitVec 16).toNat := by decide
theorem witness_CompositesEqualCoreOperations :
    (cached cfg10 512 (allWell 0 0)).settingValid = true ∧ cacheOk (cached cfg10 512 (allWell 0 0)) = true := by decide
theorem witness_StepRunsDecodedInstruction :
    (presenting (.req 0x07000000000)).requests = [.req 0x07000000000] ∧
    (presenting (.req 0x07000000000)).vstate = .idle ∧ decode (.req 0x07000000000) = .ok .inc := by decide
theorem witness_StepWaitsForRequest :
    (fresh cfg10 (allWell 0 0)).requests = [] ∧
    ({ presenting (.req 0) with vstate := .readBack } : State).vstate ≠ .idle := by decide
theorem witness_ReservedOperationRejected :
    (presenting (.req 0x11000000000)).requests = [.req 0x11000000000] ∧
    (presenting (.req 0x11000000000)).vstate = .idle ∧ 0x11 ≤ (reqOp 0x11000000000).toNat := by decide
theorem witness_BareWordThatIsNoFrame :
    (presenting (.frame 0x2800)).requests = [.frame 0x2800] ∧ (presenting (.frame 0x2800)).vstate = .idle ∧
    frameTop 0x2800 = 0 ∧ 9 < (frameCode 0x2800).toNat ∧ frameTop 0x4000 ≠ 0 := by decide
theorem witness_FetchWordRunsNext : decodeTableWord 16 0x0600 = some (.rdacWrite 0x200) := by decide
/-- A step that sends three frames from a state that meets the invariant. -/
theorem witness_StepKeepsStateOk :
    stateOk (presenting (.req 0x0A000000000)) = true ∧
    view (step (presenting (.req 0x0A000000000))) (fun t => t.trace.length) = some 15 := by decide
theorem witness_StepKeepsConfigurationAndHistory :
    view (step { cached cfg10 512 (allWell 0 0) with requests := [.req 0x07000000000] }) (fun t => t.settingValid) =
      some true ∧ (cached cfg10 512 (allWell 0 0)).settingValid = true ∧
    (cached cfg10 512 (allWell 0 0)).vstate = .idle := by decide
theorem witness_RejectionChangesNoState :
    view (exec (.xwrite 2 0x400) (fresh cfg10 (allWell 0 0))) (fun t => t.rsp.map (·.kind)) =
      some (some .rejected) := by decide
theorem witness_FailedWiperWriteKeepsCache :
    view (exec .inc (cached cfg10 512 ⟨[false, true], [0], [], [], 0⟩)) (fun t => t.rsp.map (·.kind)) =
      some (some .failed) ∧ writesWiper .inc = true ∧ Instr.inc ≠ .beginOp := by decide
theorem witness_OnlyWiperWritesChangeCache :
    writesWiper (.xread 2 0) = false ∧
    view (exec (.xread 2 0) (cached cfg10 512 (allWell 1 1))) (fun t => t.trace.length) = some 7 := by decide
theorem witness_FramesSentAreListed :
    view (exec .beginOp (fresh cfg10 (allWell 3 0xFF))) (fun t => framesSent t.trace) =
      some [0x1C02, 0x07FF, 0x0800] := by decide
theorem witness_CountsAreBounded :
    view (exec (.verify 2) (fresh cfg10 ⟨[false, false, false, false], [1, 1], [0], [], 0⟩))
      (fun t => t.rsp.map (·.count.toNat)) = some (some 8) := by decide
theorem witness_TransportCallsAreBounded :
    view (exec .beginOp (fresh cfg10 (allWell 3 0xFF))) (fun t => t.trace.length) = some 15 := by decide
theorem witness_ResponseFieldsAgreeWithKind :
    view (exec (.verify 0x0A) (fresh cfg10 (allWell 0 0))) (fun t => t.rsp.map fun r => (r.kind, r.rangeFlag, r.mismatch)) =
      some (some (.failed, true, true)) := by decide
theorem witness_OtherOperationsIgnoreCache :
    readsCache (.setset 5) = false ∧
    view (exec (.setset 5) (fresh cfg10 (allWell 0 5))) cache = some (5, 98) ∧
    view (exec (.setset 5) (cached cfg10 512 (allWell 0 5))) cache = some (5, 98) := by decide
theorem witness_OnlyLegalParametersInstantiate :
    Config.instantiate 10 20000 0x2F false true true = some cfg10 ∧
    Config.instantiate 9 20000 0x2F false true true = none := by decide

end Sys2Proof.Tests
end

section
/-! PROOFS of spec/00_scope.md: the legal parameters of a part (R6, R28) and the state after reset (R35, R250). -/

namespace Sys2Proof

/-! ### Each raw parameter names at most one value of the configuration -/

theorem Resolution.ofBits_isSome_iff (n : Nat) : (Resolution.ofBits n).isSome = true ↔ n = 8 ∨ n = 10 := by
  unfold Resolution.ofBits
  split_ifs <;> simp [*]

theorem FullScale.ofOhms_isSome_iff (n : Nat) :
    (FullScale.ofOhms n).isSome = true ↔ n = 20000 ∨ n = 50000 ∨ n = 100000 := by
  unfold FullScale.ofOhms
  split_ifs <;> simp [*]

theorem Strap.ofAddr_isSome_iff (a : BitVec 7) :
    (Strap.ofAddr a).isSome = true ↔ a = 0x2F ∨ a = 0x2C ∨ a = 0x2E := by
  unfold Strap.ofAddr
  split_ifs <;> simp_all

theorem Resolution.bits_of_ofBits {n : Nat} {r : Resolution} (h : Resolution.ofBits n = some r) : r.bits = n := by
  unfold Resolution.ofBits at h
  split_ifs at h with h8 h10
  · cases h; exact h8.symm
  · cases h; exact h10.symm

theorem FullScale.ohms_of_ofOhms {n : Nat} {f : FullScale} (h : FullScale.ofOhms n = some f) : f.ohms = n := by
  unfold FullScale.ofOhms at h
  split_ifs at h with h20 h50 h100
  · cases h; exact h20.symm
  · cases h; exact h50.symm
  · cases h; exact h100.symm

theorem Strap.addr_of_ofAddr {a : BitVec 7} {p : Strap} (h : Strap.ofAddr a = some p) : p.addr = a := by
  unfold Strap.ofAddr at h
  split_ifs at h with h2F h2C h2E
  · cases h; exact h2F.symm
  · cases h; exact h2C.symm
  · cases h; exact h2E.symm

/-! ### The configuration made of them -/

/-- `MAX_VALUE` as R6 derives it from `RES`. -/
theorem Config.maxValue_eq (c : Config) : c.maxValue = 2 ^ c.res.bits - 1 := by
  unfold Config.maxValue
  cases c.res <;> rfl

section
variable {res rfs : Nat} {addr : BitVec 7} {nopW stopW stopR : Bool}

/-- What a configuration is made of: the readings of the three parameters, and the decision parameters as given. -/
theorem Config.of_instantiate {c : Config} (h : Config.instantiate res rfs addr nopW stopW stopR = some c) :
    Resolution.ofBits res = some c.res ∧ FullScale.ofOhms rfs = some c.fullScale ∧
    Strap.ofAddr addr = some c.strap ∧
    c.nopWritable = nopW ∧ c.sendStopWritePhase = stopW ∧ c.sendStopReadPhase = stopR := by
  unfold Config.instantiate at h
  split at h
  next r f p hres hfs hstrap => cases h; exact ⟨hres, hfs, hstrap, rfl, rfl, rfl⟩
  next => cases h

/-- Instantiation refuses exactly when one of the three parameters has no reading (R28). -/
theorem Config.instantiate_isSome_iff :
    (Config.instantiate res rfs addr nopW stopW stopR).isSome = true ↔
      (Resolution.ofBits res).isSome = true ∧ (FullScale.ofOhms rfs).isSome = true ∧
      (Strap.ofAddr addr).isSome = true := by
  simp only [Option.isSome_iff_exists]
  constructor
  · rintro ⟨c, hc⟩
    obtain ⟨hres, hfs, hstrap, -⟩ := Config.of_instantiate hc
    exact ⟨⟨_, hres⟩, ⟨_, hfs⟩, ⟨_, hstrap⟩⟩
  · rintro ⟨⟨r, hres⟩, ⟨f, hfs⟩, ⟨p, hstrap⟩⟩
    simp [Config.instantiate, hres, hfs, hstrap]

end

/-- Settles O58: a configuration exists exactly when each parameter has a reading, and a reading keeps the number
it was read from. -/
theorem onlyLegalParametersInstantiate : Obligations.OnlyLegalParametersInstantiate := by
  unfold Obligations.OnlyLegalParametersInstantiate
  intro res rfs addr nopW stopW stopR
  constructor
  · rw [Config.instantiate_isSome_iff, Resolution.ofBits_isSome_iff, FullScale.ofOhms_isSome_iff,
      Strap.ofAddr_isSome_iff]
  · intro c h
    obtain ⟨hres, hfs, hstrap, hdecisions⟩ := Config.of_instantiate h
    have hbits : c.res.bits = res := Resolution.bits_of_ofBits hres
    have hmax : c.maxValue = 2 ^ res - 1 := hbits ▸ c.maxValue_eq
    exact ⟨hbits, FullScale.ohms_of_ofOhms hfs, Strap.addr_of_ofAddr hstrap, hmax, rfl, hdecisions⟩

/-- Settles O48: each field of the reset state is the value `State.reset` writes; the decision parameters do not
depend on which part `Config.part` is. -/
theorem resetLeavesCacheInvalid : Obligations.ResetLeavesCacheInvalid :=
  ⟨rfl, rfl, rfl, rfl, rfl, rfl, rfl⟩

end Sys2Proof
end

section
/-! SUPPORT. The frames the block sends keep the grammar of the bus: a frame is a packed command (R81), a write command
and a read command are told apart by their direction (R85), and the payload is one R87 admits. -/

namespace Sys2Proof.Machine

open Sys2Proof.Safety

/-! ### A frame as a packed command -/

theorem payloadMask_getElem : ∀ (i : Nat) (hi : i < 16), (0x3FF#16)[i] = decide (i < 10) := by decide

theorem encodeFrame_code (c : Command) (payload : BitVec 16) :
    encodeFrame c.code payload = packFrame c (payload.setWidth 10) := by
  ext i hi
  rw [packFrame, BitVec.getElem_append]
  have hmask := payloadMask_getElem i hi
  by_cases h10 : i < 10
  · simp [encodeFrame, h10, hmask, BitVec.getLsbD_eq_getElem hi]
  · have htop : (0#2 ++ c.code)[i - 10] = c.code.getLsbD (i - 10) := by
      rw [BitVec.getElem_append]
      by_cases h14 : i - 10 < 4
      · simp [h14]
      · simp [h14, BitVec.getLsbD_of_ge c.code (i - 10) (by omega)]
    simp [encodeFrame, h10, hmask, htop]

theorem ofCode_eq_some {code : Code} {c : Command} (h : Command.ofCode code = some c) : code = c.code := by
  unfold Command.ofCode at h
  split at h <;> cases h <;> exact BitVec.eq_of_toNat_eq ‹_›

/-- A packed command may be sent when its payload field is well-formed, NOP only when it is writable (R86, R87). -/
theorem sendable_packFrame (cfg : Config) (c : Command) (p : Payload) :
    sendable cfg (packFrame c p) = ((c != .nop || cfg.nopWritable) && (c.instr p).wellFormed) := by
  unfold sendable decodeFrame
  rw [frameTop_packFrame, frameCode_packFrame, framePayload_packFrame, ofCode_code]
  cases c <;> simp [Command.instr]

theorem isReadFrame_packFrame (c : Command) (p : Payload) :
    isReadFrame (packFrame c p) = decide (direction c = .read) := by
  simp [isReadFrame, frameCode_packFrame, readable, ofCode_code]

/-! ### The frames of XWRITE and XREAD -/

theorem writable_command {cfg : Config} {code : Code} (h : writable cfg code = true) :
    ∃ c : Command, code = c.code ∧ direction c ≠ .read ∧ (c = .nop → cfg.nopWritable = true) := by
  unfold writable at h
  split at h
  next c hc =>
    refine ⟨c, ofCode_eq_some hc, ?_, ?_⟩
    · intro hd
      simp [hd] at h
    · rintro rfl
      exact h
  next => cases h

theorem readable_command {code : Code} (h : readable code = true) :
    ∃ c : Command, code = c.code ∧ direction c = .read := by
  unfold readable at h
  split at h
  next c hc => exact ⟨c, ofCode_eq_some hc, of_decide_eq_true h⟩
  next => cases h

/-- R142: the host's payload goes out with the commands that carry one, 0 with the others. -/
theorem wellFormed_writePayload (c : Command) (payload : BitVec 16) :
    (c.instr ((writePayload c.code payload).setWidth 10)).wellFormed = true := by
  cases c <;> rfl

/-- R148: TP_WIPER_READ goes out with six bits of location, the other reading commands with 0. -/
theorem wellFormed_readPayload (c : Command) (payload : BitVec 16) :
    (c.instr ((readPayload c.code payload).setWidth 10)).wellFormed = true := by
  cases c
  case tpWiperRead =>
    simp [Command.instr, Instr.wellFormed, readPayload, BitVec.le_def, Nat.and_le_right]
  all_goals rfl

theorem writeFrame_sendable {cfg : Config} {code : Code} (payload : BitVec 16) (h : writable cfg code = true) :
    sendable cfg (encodeFrame code (writePayload code payload)) = true ∧
    isReadFrame (encodeFrame code (writePayload code payload)) = false := by
  obtain ⟨c, rfl, hdir, hnop⟩ := writable_command h
  rw [encodeFrame_code, sendable_packFrame, isReadFrame_packFrame, wellFormed_writePayload c payload]
  refine ⟨?_, decide_eq_false hdir⟩
  by_cases hc : c = .nop
  · simp [hnop hc]
  · simp [hc]

theorem readFrame_sendable (cfg : Config) {code : Code} (payload : BitVec 16) (h : readable code = true) :
    sendable cfg (encodeFrame code (readPayload code payload)) = true ∧
    isReadFrame (encodeFrame code (readPayload code payload)) = true := by
  obtain ⟨c, rfl, hdir⟩ := readable_command h
  have hnop : c ≠ .nop := by
    rintro rfl
    cases hdir
  rw [encodeFrame_code, sendable_packFrame, isReadFrame_packFrame, wellFormed_readPayload c payload]
  simp [hnop, hdir]

/-! ### The calls of one transaction -/

theorem busRun_append (cfg : Config) (l l' : List Event) (b : BusPhase) :
    busRun cfg b (l ++ l') = (busRun cfg b l).bind fun b' => busRun cfg b' l' := by
  induction l generalizing b with
  | nil => rfl
  | cons e rest ih =>
    simp only [List.cons_append, busRun]
    cases busCall cfg b e with
    | none => rfl
    | some b' => exact ih b'

/-- The two bytes on the wire are the frame (R83). -/
theorem bytes_of_frame (f : FrameWord) : (f.extractLsb' 8 8 ++ f.extractLsb' 0 8 : FrameWord) = f := by
  ext i hi
  rw [BitVec.getElem_append]
  by_cases h : i < 8
  · simp [h, BitVec.getLsbD_eq_getElem hi]
  · simp [h, show 8 + (i - 8) = i by omega, BitVec.getLsbD_eq_getElem hi]

theorem busRun_writeEvents {cfg : Config} {f : FrameWord} (w : WriteAnswers) (hs : sendable cfg f = true) :
    busRun cfg .ready (writeEvents cfg f w) = some (if isReadFrame f then .mustRequest else .ready) := by
  simp [writeEvents, busRun, busCall, bytes_of_frame, hs]

theorem busRun_readEvents (cfg : Config) (r : ReadAnswers) :
    busRun cfg .mustRequest (readEvents cfg r) = some .ready := by
  cases r <;> simp [readEvents, busRun, busCall]

theorem traceConforms_iff (s : State) : traceConforms s = true ↔ busRun s.cfg .ready s.trace = some .ready := by
  simp [traceConforms]

/-- A write phase of a command that is not read keeps the grammar. -/
theorem traceConforms_afterWrite {f : FrameWord} {s : State} (hs : sendable s.cfg f = true)
    (hr : isReadFrame f = false) (h : traceConforms s = true) : traceConforms (afterWrite f s) = true := by
  rw [traceConforms_iff] at h ⊢
  simp [afterWrite, busRun_append, h, busRun_writeEvents _ hs, hr]

/-- A read transaction keeps the grammar: its read phase follows a read command's frame (R151). -/
theorem traceConforms_afterRead {f : FrameWord} {s : State} (hs : sendable s.cfg f = true)
    (hr : isReadFrame f = true) (h : traceConforms s = true) : traceConforms (afterRead f s) = true := by
  rw [traceConforms_iff] at h ⊢
  simp [afterRead, busRun_append, h, busRun_writeEvents _ hs, hr, busRun_readEvents]

end Sys2Proof.Machine
end

section
/-! SUPPORT. What an instruction can do to the state, said once. An instruction is carried out in one of six ways
(`Plan`), and each of them is a sequence of seven kinds of change (`Move`), whatever the transport answers. -/

namespace Sys2Proof.Machine

open Sys2Proof.Safety

/-! ### The changes an instruction is made of -/

/-- One change of the state. Only RDAC_WRITE and what is composed from it (`wiper`) write the cache, and only with a
setting within the bounds (R21, R23); only whole transactions of sendable frames reach the bus (R87, R151). -/
inductive Move (wiper : Bool) : State → State → Prop where
  | wrote {f : FrameWord} {s : State} (hs : sendable s.cfg f = true) (hr : isReadFrame f = false) :
      Move wiper s (afterWrite f s)
  | read {f : FrameWord} {s : State} (hs : sendable s.cfg f = true) (hr : isReadFrame f = true) :
      Move wiper s (afterRead f s)
  | cached {v : Setting} {s : State} (hw : wiper = true) (hv : v.toNat ≤ s.cfg.maxValue) :
      Move wiper s (withCache v s)
  | counted {n : BitVec 4} {s : State} (hn : n ≤ 8) : Move wiper s (s.setAcc n)
  | idled {s : State} : Move wiper s (s.setVState .idle)
  | responded {r : Response} {s : State} : Move wiper s (s.respond r)
  | drewFree {s : State} : Move wiper s s.nextFree

/-- Any number of such changes. -/
abbrev Moves (wiper : Bool) : State → State → Prop := Relation.ReflTransGen (Move wiper)

section
variable {wiper : Bool} {code : Code} {payload : BitVec 16} {s t : State}

/-! ### XWRITE and XREAD as moves -/

theorem capped_toNat_le (cfg : Config) (n : Nat) : (capped cfg n).toNat ≤ cfg.maxValue := by
  rw [← clamp_natCast]
  exact clamp_toNat_le cfg n

/-- What admission means when neither of its flags is set (R141, R149). -/
theorem admitted_of_not_rejected {allowed overflows : Bool} (h : ¬(!allowed || overflows) = true) :
    allowed = true ∧ overflows = false := by
  simpa using h

theorem payload_of_fits (h : payloadOverflows payload = false) :
    ∃ p : Payload, payload = p.setWidth 16 := by
  refine ⟨payload.setWidth 10, BitVec.eq_of_toNat_eq ?_⟩
  have hle : payload.toNat ≤ 0x3FF := not_lt.1 (of_decide_eq_false h)
  rw [BitVec.toNat_setWidth, BitVec.toNat_setWidth]
  omega

theorem refreshed_moves (p : Payload) (s : State) : Moves true s (refreshed p s) := by
  obtain ⟨hsend, hdir⟩ : sendable s.cfg 0x0800 = true ∧ isReadFrame 0x0800 = true :=
    readFrame_sendable s.cfg (code := Command.rdacRead.code) 0 (by decide)
  have hread : Moves true s (afterRead 0x0800 (withCache (capped s.cfg p.toNat) s)) :=
    .tail (.single (.cached rfl (capped_toNat_le s.cfg _))) (.read hsend hdir)
  unfold refreshed
  simp only
  split
  · exact hread.tail (.cached rfl (capped_toNat_le s.cfg _))
  · exact hread

/-- The three ends of XWRITE: rejected (R141), one write phase (R140), or an RDAC_WRITE with its refresh (R152). -/
theorem xwrite_moves (hw : code = Command.rdacWrite.code → wiper = true) :
    Moves wiper s (xwrite code payload s).2 := by
  by_cases hrej : (!writable s.cfg code || payloadOverflows payload) = true
  · rw [xwrite_rejected hrej]
  · obtain ⟨hwritable, hfits⟩ := admitted_of_not_rejected hrej
    obtain ⟨hsend, hdir⟩ := writeFrame_sendable payload hwritable
    have hsent : Moves wiper s (afterWrite (encodeFrame code (writePayload code payload)) s) :=
      .single (.wrote hsend hdir)
    by_cases hcode : code = Command.rdacWrite.code
    · obtain rfl := hw hcode
      subst hcode
      obtain ⟨p, rfl⟩ := payload_of_fits hfits
      rw [show writePayload Command.rdacWrite.code (p.setWidth 16) = p.setWidth 16 from mask_payload p,
        encodeFrame_rdacWrite] at hsent
      rw [xwrite_wiper]
      split
      · exact hsent.trans (refreshed_moves p _)
      · exact hsent
    · rw [xwrite_plain (Bool.eq_false_of_not_eq_true hrej) hcode]
      exact hsent

theorem xread_moves : Moves wiper s (xread code payload s).2 := by
  by_cases hrej : (!readable code || readDataRejected code payload) = true
  · rw [xread_rejected hrej]
  · rw [xread_admitted (Bool.eq_false_of_not_eq_true hrej)]
    obtain ⟨hsend, hdir⟩ := readFrame_sendable s.cfg payload (admitted_of_not_rejected hrej).1
    exact .single (.read hsend hdir)

theorem respondWrite_moves {r : WriteResult × State} (h : Moves wiper s r.2) : Moves wiper s (respondWrite r) :=
  h.tail .responded

theorem respondRead_moves {r : ReadResult × State} (h : Moves wiper s r.2) : Moves wiper s (respondRead r) := by
  unfold respondRead
  split
  · exact h.tail .responded
  · exact (h.tail .responded).tail .drewFree

/-! ### VERIFY -/

/-- The CONTROL_WRITE frame of VERIFY (R192). -/
def verifyFrame (control : BitVec 8) : FrameWord :=
  encodeFrame Command.controlWrite.code ((controlBits control).setWidth 16)

/-- The CONTROL_READ frame of VERIFY (R193). -/
def verifyReadFrame : FrameWord := encodeFrame Command.controlRead.code 0

/-- The state VERIFY ends in: one write phase, one read transaction, and the total of R194. -/
def verifyEnd (control : BitVec 8) (s : State) : State :=
  let w := afterWrite (verifyFrame control) s
  let t := verifyFinish (writeCount s) (txnResult w) control (afterRead verifyReadFrame w)
  (t.respond (verifyResponse (txnResult w) control t)).setVState .idle

theorem execVerify_eq (control : BitVec 8) (s : State) : execVerify control s = .next (verifyEnd control s) := by
  simp only [execVerify, verifyWrite, verifyRead, writePhase_eq, readTxn_eq]
  rfl

theorem txnResult_errors (s : State) : (txnResult s).errors = readCount s := by
  have h5 := readCount_le s
  unfold txnResult
  split
  next h0 => exact h0.symm
  next =>
    simp only [TxnResult.errors, BitVec.toNat_ofNat]
    omega

theorem readCount_of_mismatch {written : BitVec 8} (h : (txnResult s).mismatch written = true) :
    readCount s = 0 := by
  unfold txnResult at h
  split at h
  next h0 => exact h0
  next => cases h

theorem acc_ofNat_le {n : Nat} (h : n ≤ 8) : BitVec.ofNat 4 n ≤ 8 := by
  rw [BitVec.le_def, BitVec.toNat_ofNat]
  exact le_trans (Nat.mod_le _ _) h

/-- R26, R228: at most 3 of the write, then at most 5 of the read, or no read error and the mismatch unit. -/
theorem verifyTotal_le (control : BitVec 8) (s w : State) :
    writeCount s + (txnResult w).errors +
      (if (txnResult w).mismatch (controlBits control) then 1 else 0) ≤ 8 := by
  have h3 := writeCount_le s
  have h5 := readCount_le w
  rw [txnResult_errors]
  split
  next hmis =>
    have h0 := readCount_of_mismatch hmis
    omega
  next => omega

theorem verifyFrame_sendable (cfg : Config) (control : BitVec 8) :
    sendable cfg (verifyFrame control) = true ∧ isReadFrame (verifyFrame control) = false := by
  rw [verifyFrame, encodeFrame_code, sendable_packFrame, isReadFrame_packFrame]
  exact ⟨rfl, rfl⟩

theorem verifyEnd_moves (control : BitVec 8) (s : State) : Moves wiper s (verifyEnd control s) := by
  obtain ⟨hsend, hdir⟩ := verifyFrame_sendable s.cfg control
  obtain ⟨hsendRead, hdirRead⟩ : sendable s.cfg verifyReadFrame = true ∧ isReadFrame verifyReadFrame = true :=
    readFrame_sendable s.cfg (code := Command.controlRead.code) 0 (by decide)
  have hbus : Moves wiper s (afterRead verifyReadFrame (afterWrite (verifyFrame control) s)) :=
    .tail (.single (.wrote hsend hdir)) (.read hsendRead hdirRead)
  exact ((hbus.tail (.counted (acc_ofNat_le (verifyTotal_le control s _)))).tail .responded).tail .idled

/-! ### BEGIN -/

theorem xwrite_errors_le (code : Code) (payload : BitVec 16) (s : State) :
    (xwrite code payload s).1.errors.toNat ≤ 3 := by
  have h3 := writeCount_le s
  have hfailed : (WriteResult.failed (BitVec.ofNat 4 (writeCount s))).errors.toNat ≤ 3 := by
    simp only [WriteResult.errors, BitVec.toNat_ofNat]
    omega
  by_cases hrej : (!writable s.cfg code || payloadOverflows payload) = true
  · rw [xwrite_rejected hrej]
    exact Nat.zero_le _
  · by_cases hcode : code = Command.rdacWrite.code
    · obtain ⟨p, rfl⟩ := payload_of_fits (admitted_of_not_rejected hrej).2
      rw [hcode, xwrite_wiper]
      split
      · exact Nat.zero_le _
      · exact hfailed
    · rw [xwrite_plain (Bool.eq_false_of_not_eq_true hrej) hcode]
      split
      · exact Nat.zero_le _
      · exact hfailed

/-- The unlock of BEGIN, from the cache at the maximum (R200). -/
def beginUnlock (s : State) : WriteResult × State :=
  xwrite Command.controlWrite.code wiperWriteEnable (setSetting s.cfg.maxValue s)

/-- The RDAC_WRITE of the maximum, from the state the unlock leaves (R200). -/
def beginWrite (s : State) : WriteResult × State :=
  xwrite Command.rdacWrite.code (BitVec.ofNat 16 s.cfg.maxValue) (beginUnlock s).2

/-- The state BEGIN ends in, given the result of the unlock and that of the RDAC_WRITE with its state. -/
def beginEnd (unlock : WriteResult) (write : WriteResult × State) : State :=
  let t := write.2.setAcc (unlock.errors + write.1.errors)
  let base := if t.acc = 0 then Response.ok 0 else Response.failed t.acc 0
  t.respond { base with refreshCount := write.1.refresh }

theorem execBegin_eq (s : State) : execBegin s = .next (beginEnd (beginUnlock s).1 (beginWrite s)) := rfl

theorem beginEnd_moves (s : State) : Moves true s (beginEnd (beginUnlock s).1 (beginWrite s)) := by
  have hcached : Moves true s (setSetting s.cfg.maxValue s) := .single (.cached rfl (clamp_toNat_le s.cfg _))
  have hunlock : Moves true s (beginUnlock s).2 := hcached.trans (xwrite_moves fun _ => rfl)
  have hwrite : Moves true s (beginWrite s).2 := hunlock.trans (xwrite_moves fun _ => rfl)
  have hcount : (beginUnlock s).1.errors + (beginWrite s).1.errors ≤ 8 := by
    have h₁ : (beginUnlock s).1.errors.toNat ≤ 3 := xwrite_errors_le _ _ _
    have h₂ : (beginWrite s).1.errors.toNat ≤ 3 := xwrite_errors_le _ _ _
    rw [BitVec.le_def, BitVec.toNat_add]
    exact le_trans (Nat.mod_le _ _) (le_trans (Nat.add_le_add h₁ h₂) (by decide))
  exact (hwrite.tail (.counted hcount)).tail .responded

end

/-! ### The six ways in which an instruction is carried out -/

/-- How an instruction is carried out, its operands already computed. -/
inductive Plan where
  /-- An answer without bus activity. -/
  | answer (r : Response)
  /-- The same, with a `value` that the rules do not state (log entry 4). -/
  | unstated (r : Response)
  /-- An XWRITE (R140). -/
  | write (code : Code) (payload : BitVec 16)
  /-- An XREAD (R148). -/
  | read (code : Code) (payload : BitVec 16)
  /-- VERIFY (R190). -/
  | verify (control : BitVec 8)
  /-- BEGIN (R200). -/
  | begin

/-- What a plan does to the state, in the model's own operations. -/
def Plan.run : Plan → State → Host.Outcome State Fault Refusal
  | .answer r, s => .next (s.respond r)
  | .unstated r, s => .next (s.respond r).nextFree
  | .write code payload, s => .next (respondWrite (xwrite code payload s))
  | .read code payload, s => .next (respondRead (xread code payload s))
  | .verify control, s => execVerify control s
  | .begin, s => execBegin s

/-- The plans that may write the cache. -/
def Plan.writesWiper : Plan → Bool
  | .write code _ => decide (code = Command.rdacWrite.code)
  | .begin => true
  | _ => false

/-- `p` is how `i` is carried out from `s`; when `i` does not read the cache, `p` is so from every state of the same
configuration (R253). -/
structure CarriedOutBy (i : Instr) (s : State) (p : Plan) : Prop where
  exec_eq : exec i s = p.run s
  wiper : p.writesWiper = true → Safety.writesWiper i = true
  of_cfg : readsCache i = false → ∀ s' : State, s'.cfg = s.cfg → exec i s' = p.run s'

/-- A test between two plans is a plan. -/
theorem Plan.run_ite {c : Prop} [Decidable c] {p q : Plan} {s a b : State} (hp : p.run s = .next a)
    (hq : q.run s = .next b) : (if c then p else q).run s = .next (if c then a else b) := by
  split
  · exact hp
  · exact hq

theorem exec_carriedOut (i : Instr) (s : State) : ∃ p : Plan, CarriedOutBy i s p := by
  cases i with
  | nop p => exact ⟨.write _ _, rfl, nofun, fun _ _ _ => rfl⟩
  | rdacWrite p => exact ⟨.write _ _, rfl, fun _ => rfl, fun _ _ _ => rfl⟩
  | rdacRead p => exact ⟨.read _ _, rfl, nofun, fun _ _ _ => rfl⟩
  | tpWrite p => exact ⟨.write _ _, rfl, nofun, fun _ _ _ => rfl⟩
  | rdacRefresh p => exact ⟨.write _ _, rfl, nofun, fun _ _ _ => rfl⟩
  | tpWiperRead p => exact ⟨.read _ _, rfl, nofun, fun _ _ _ => rfl⟩
  | tpLastUsed p => exact ⟨.read _ _, rfl, nofun, fun _ _ _ => rfl⟩
  | controlWrite p => exact ⟨.write _ _, rfl, nofun, fun _ _ _ => rfl⟩
  | controlRead p => exact ⟨.read _ _, rfl, nofun, fun _ _ _ => rfl⟩
  | shutdown p => exact ⟨.write _ _, rfl, nofun, fun _ _ _ => rfl⟩
  | encode cmd payload => exact ⟨.answer _, rfl, nofun, fun _ _ _ => rfl⟩
  | decode word => exact ⟨.answer _, rfl, nofun, fun _ _ _ => rfl⟩
  | xwrite cmd payload => exact ⟨.write _ _, rfl, id, fun _ _ _ => rfl⟩
  | xread cmd payload => exact ⟨.read _ _, rfl, nofun, fun _ _ _ => rfl⟩
  | clamp raw => exact ⟨.answer _, rfl, nofun, fun _ _ h => by rw [← h]; rfl⟩
  | tores raw => exact ⟨.answer _, rfl, nofun, fun _ _ h => by rw [← h]; rfl⟩
  | fromres target => exact ⟨.answer _, rfl, nofun, fun _ _ h => by rw [← h]; rfl⟩
  | inc =>
    exact ⟨if stateRejected s then .answer _ else .write _ _, (Plan.run_ite rfl rfl).symm, fun _ => rfl, nofun⟩
  | dec =>
    exact ⟨if stateRejected s then .answer _ else .write _ _, (Plan.run_ite rfl rfl).symm, fun _ => rfl, nofun⟩
  | verify control => exact ⟨.verify control, rfl, nofun, fun _ _ _ => rfl⟩
  | beginOp => exact ⟨.begin, rfl, fun _ => rfl, fun _ _ _ => rfl⟩
  | setset v => exact ⟨.write _ _, rfl, fun _ => rfl, fun _ _ h => by rw [← h]; rfl⟩
  | getset =>
    refine ⟨if stateRejected s then .unstated _ else .answer _, (Plan.run_ite rfl rfl).symm, fun hw => ?_, nofun⟩
    split at hw <;> cases hw
  | setres t => exact ⟨.write _ _, rfl, fun _ => rfl, fun _ _ h => by rw [← h]; rfl⟩
  | getres =>
    refine ⟨if stateRejected s then .unstated _ else .answer _, (Plan.run_ite rfl rfl).symm, fun hw => ?_, nofun⟩
    split at hw <;> cases hw
  | shutdn p => exact ⟨.write _ _, rfl, nofun, fun _ _ _ => rfl⟩
  | enwiper => exact ⟨.write _ _, rfl, nofun, fun _ _ _ => rfl⟩

/-! ### Every instruction and every step is a sequence of moves -/

theorem Plan.run_moves {p : Plan} {wiper : Bool} {s t : State} (hw : p.writesWiper = true → wiper = true)
    (h : p.run s = .next t) : Moves wiper s t := by
  cases p with
  | answer r => cases h; exact .single .responded
  | unstated r => cases h; exact .tail (.single .responded) .drewFree
  | write code payload => cases h; exact respondWrite_moves (xwrite_moves fun hc => hw (decide_eq_true hc))
  | read code payload => cases h; exact respondRead_moves xread_moves
  | verify control => cases (execVerify_eq control s).symm.trans h; exact verifyEnd_moves control s
  | begin =>
    obtain rfl : wiper = true := hw rfl
    cases (execBegin_eq s).symm.trans h
    exact beginEnd_moves s

theorem exec_moves {i : Instr} {wiper : Bool} {s t : State} (hw : Safety.writesWiper i = true → wiper = true)
    (h : exec i s = .next t) : Moves wiper s t := by
  obtain ⟨p, hp⟩ := exec_carriedOut i s
  exact Plan.run_moves (fun hpw => hw (hp.wiper hpw)) (hp.exec_eq ▸ h)

/-- A step waits (R250), or takes the first request and moves on from there (R256). -/
theorem step_moves {s t : State} (h : step s = .next t) :
    (t = s ∧ (s.vstate = .idle → s.requests = [])) ∨
    (s.vstate = .idle ∧ Moves true (s.setRequests s.requests.tail) t) := by
  unfold step acceptRequest at h
  split at h
  next hnone =>
    cases h
    refine .inl ⟨rfl, fun hidle => ?_⟩
    split at hnone
    next hreq => exact hreq
    next => simp [hidle] at hnone
  next r s' hsome =>
    split at hsome
    next => cases hsome
    next first rest hreq =>
      obtain ⟨hidle, hrs⟩ := Option.ite_none_right_eq_some.1 hsome
      cases hrs
      refine .inr ⟨hidle, ?_⟩
      rw [hreq, List.tail_cons]
      split at h
      next i _ => exact exec_moves (fun _ => rfl) h
      next e _ =>
        cases e with
        | reservedOp op => cases h; exact .single .responded
        | reservedCode c => cases h; exact .single .responded
        | topBits bits => cases h

end Sys2Proof.Machine
end

section
/-! PROOFS of spec/10_state.md: the invariant of the state, what no step changes, and who may write and read the cache
(R21 to R28, R66, R70, R253). -/

namespace Sys2Proof.Machine

open Sys2Proof.Safety

/-! ### The invariant -/

theorem cacheOk_withCache {v : Setting} {s : State} (hv : v.toNat ≤ s.cfg.maxValue) :
    cacheOk (withCache v s) = true := by
  simp [cacheOk, withCache, Config.minValue, hv]

theorem stateOk_iff (s : State) :
    stateOk s = true ↔ cacheOk s = true ∧ s.vstate = .idle ∧ s.acc ≤ 8 ∧ traceConforms s = true := by
  simp [stateOk, and_assoc]

theorem Move.stateOk {wiper : Bool} {s t : State} (m : Move wiper s t) (h : Safety.stateOk s = true) :
    Safety.stateOk t = true := by
  rw [stateOk_iff] at h ⊢
  obtain ⟨hcache, hidle, hacc, htrace⟩ := h
  cases m with
  | wrote hs hr =>
    have hcount : writeCount s ≤ 8 := le_trans (writeCount_le s) (by decide)
    exact ⟨hcache, hidle, acc_ofNat_le hcount, traceConforms_afterWrite hs hr htrace⟩
  | read hs hr =>
    have hcount : readCount s ≤ 8 := le_trans (readCount_le s) (by decide)
    exact ⟨hcache, hidle, acc_ofNat_le hcount, traceConforms_afterRead hs hr htrace⟩
  | cached hw hv => exact ⟨cacheOk_withCache hv, hidle, hacc, htrace⟩
  | counted hn => exact ⟨hcache, hidle, hn, htrace⟩
  | idled => exact ⟨hcache, rfl, hacc, htrace⟩
  | responded => exact ⟨hcache, hidle, hacc, htrace⟩
  | drewFree => exact ⟨hcache, hidle, hacc, htrace⟩

theorem Moves.stateOk {wiper : Bool} {s t : State} (m : Moves wiper s t) (h : Safety.stateOk s = true) :
    Safety.stateOk t = true := by
  induction m with
  | refl => exact h
  | tail _ last ih => exact last.stateOk ih

/-- The host's list of requests is no part of the invariant. -/
theorem stateOk_setRequests (rs : List Request) (s : State) : stateOk (s.setRequests rs) = stateOk s := rfl

/-- Settles O46: waiting keeps the state, and any other step is a sequence of moves, each of which keeps the
invariant. -/
theorem stepKeepsStateOk : Obligations.StepKeepsStateOk := by
  unfold Obligations.StepKeepsStateOk
  intro s t hok hstep
  obtain ⟨rfl, -⟩ | ⟨-, hmoves⟩ := step_moves hstep
  · exact hok
  · exact hmoves.stateOk (stateOk_setRequests _ s ▸ hok)

/-- Settles O47: the cache is invalid, and the trace is empty whatever the part. -/
theorem resetIsStateOk : Obligations.ResetIsStateOk :=
  (stateOk_iff State.reset).2 ⟨rfl, rfl, by decide, rfl⟩

/-! ### What no step changes -/

/-- `t` comes after `s` under the same configuration: the valid bit is not cleared, the history only grows and the
host's requests are as they were. -/
structure Extends (s t : State) : Prop where
  cfg : t.cfg = s.cfg
  valid : s.settingValid = true → t.settingValid = true
  trace : s.trace <+: t.trace
  requests : t.requests = s.requests

theorem Extends.refl (s : State) : Extends s s := ⟨rfl, id, List.prefix_rfl, rfl⟩

theorem Extends.trans {s t u : State} (h : Extends s t) (h' : Extends t u) : Extends s u :=
  ⟨h'.cfg.trans h.cfg, h'.valid ∘ h.valid, h.trace.trans h'.trace, h'.requests.trans h.requests⟩

theorem Move.toExtends {wiper : Bool} {s t : State} (m : Move wiper s t) : Extends s t := by
  cases m with
  | wrote => exact ⟨rfl, id, List.prefix_append _ _, rfl⟩
  | read => exact ⟨rfl, id, List.prefix_append _ _, rfl⟩
  | cached => exact ⟨rfl, fun _ => rfl, List.prefix_rfl, rfl⟩
  | counted => exact ⟨rfl, id, List.prefix_rfl, rfl⟩
  | idled => exact ⟨rfl, id, List.prefix_rfl, rfl⟩
  | responded => exact ⟨rfl, id, List.prefix_rfl, rfl⟩
  | drewFree => exact ⟨rfl, id, List.prefix_rfl, rfl⟩

theorem Moves.toExtends {wiper : Bool} {s t : State} (m : Moves wiper s t) : Extends s t := by
  induction m with
  | refl => exact .refl s
  | tail _ last ih => exact ih.trans last.toExtends

/-- Settles O49: each move of a step extends the state in which the request was accepted. -/
theorem stepKeepsConfigurationAndHistory : Obligations.StepKeepsConfigurationAndHistory := by
  unfold Obligations.StepKeepsConfigurationAndHistory
  intro s t hstep
  obtain ⟨rfl, hwaits⟩ | ⟨-, hmoves⟩ := step_moves hstep
  · exact ⟨rfl, id, List.prefix_rfl, fun hidle => by rw [hwaits hidle, List.tail_nil]⟩
  · obtain ⟨hcfg, hvalid, htrace, hrequests⟩ := hmoves.toExtends
    exact ⟨hcfg, hvalid, htrace, fun _ => hrequests⟩

/-! ### Who writes the cache -/

/-- The two states hold the same cache. -/
def SameCache (s t : State) : Prop :=
  t.setting = s.setting ∧ t.settingValid = s.settingValid ∧ t.resistance = s.resistance

theorem Move.sameCache {s t : State} (m : Move false s t) : SameCache s t := by
  cases m with
  | cached hw => cases hw
  | wrote => exact ⟨rfl, rfl, rfl⟩
  | read => exact ⟨rfl, rfl, rfl⟩
  | counted => exact ⟨rfl, rfl, rfl⟩
  | idled => exact ⟨rfl, rfl, rfl⟩
  | responded => exact ⟨rfl, rfl, rfl⟩
  | drewFree => exact ⟨rfl, rfl, rfl⟩

theorem Moves.sameCache {s t : State} (m : Moves false s t) : SameCache s t := by
  induction m with
  | refl => exact ⟨rfl, rfl, rfl⟩
  | tail _ last ih =>
    obtain ⟨hsetting, hvalid, hohms⟩ := ih
    obtain ⟨hsetting', hvalid', hohms'⟩ := last.sameCache
    exact ⟨hsetting'.trans hsetting, hvalid'.trans hvalid, hohms'.trans hohms⟩

/-- Settles O52: without RDAC_WRITE no move writes the cache. -/
theorem onlyWiperWritesChangeCache : Obligations.OnlyWiperWritesChangeCache := by
  unfold Obligations.OnlyWiperWritesChangeCache
  intro i s t hexec hwiper
  exact (exec_moves (wiper := false) (fun hw => hwiper.symm.trans hw) hexec).sameCache

/-! ### Who reads the cache -/

/-- The state with its cache blotted out: two states that differ in the cache alone have the same one. -/
def forgetCache (s : State) : State := { s with setting := 0, settingValid := false, resistance := 0 }

/-- The two states differ in the cache at most. -/
def SameOffCache (s s' : State) : Prop := forgetCache s' = forgetCache s

section
variable {s s' : State}

/-- What does not depend on the cache is the same in both. -/
theorem SameOffCache.eq_of {α : Type} {g : State → α} (h : SameOffCache s s')
    (hg : ∀ u, g (forgetCache u) = g u) : g s' = g s := by
  rw [← hg s', ← hg s, h]

/-- What neither reads nor writes the cache keeps them the same off it. -/
theorem SameOffCache.map {g : State → State} (h : SameOffCache s s')
    (hg : ∀ u, g (forgetCache u) = forgetCache (g u)) : SameOffCache (g s) (g s') := by
  rw [SameOffCache, ← hg s', ← hg s, h]

theorem SameOffCache.cfg (h : SameOffCache s s') : s'.cfg = s.cfg := h.eq_of fun _ => rfl

theorem SameOffCache.writeCount (h : SameOffCache s s') : Safety.writeCount s' = Safety.writeCount s :=
  h.eq_of fun _ => rfl

theorem SameOffCache.readCount (h : SameOffCache s s') : Safety.readCount s' = Safety.readCount s :=
  h.eq_of fun _ => rfl

theorem SameOffCache.readDatum (h : SameOffCache s s') : Safety.readDatum s' = Safety.readDatum s :=
  h.eq_of fun _ => rfl

theorem SameOffCache.afterWrite (h : SameOffCache s s') (f : FrameWord) :
    SameOffCache (Safety.afterWrite f s) (Safety.afterWrite f s') := h.map fun _ => rfl

theorem SameOffCache.afterRead (h : SameOffCache s s') (f : FrameWord) :
    SameOffCache (Safety.afterRead f s) (Safety.afterRead f s') := h.map fun _ => rfl

theorem SameOffCache.respond (h : SameOffCache s s') (r : Response) :
    SameOffCache (s.respond r) (s'.respond r) := h.map (g := (State.respond · r)) fun _ => rfl

theorem SameOffCache.nextFree (h : SameOffCache s s') : SameOffCache s.nextFree s'.nextFree := h.map fun _ => rfl

theorem SameOffCache.verifyEnd (h : SameOffCache s s') (control : BitVec 8) :
    SameOffCache (Machine.verifyEnd control s) (Machine.verifyEnd control s') := h.map fun _ => rfl

/-- What is cached makes no difference off the cache. -/
theorem SameOffCache.withCache (h : SameOffCache s s') (v v' : Setting) :
    SameOffCache (Safety.withCache v s) (Safety.withCache v' s') := h

/-- Off the cache, the refresh of an RDAC_WRITE is its read transaction. -/
theorem forgetCache_refreshed (p : Payload) (s : State) :
    forgetCache (refreshed p s) = Safety.afterRead 0x0800 (forgetCache s) := by
  unfold refreshed
  simp only
  split <;> rfl

/-- The result of a sub-operation is the same, and so is its state off the cache. -/
def SameResult {α : Type} (r r' : α × State) : Prop := r'.1 = r.1 ∧ SameOffCache r.2 r'.2

theorem SameOffCache.xwrite (h : SameOffCache s s') (code : Code) (payload : BitVec 16) :
    SameResult (Machine.xwrite code payload s) (Machine.xwrite code payload s') := by
  by_cases hrej : (!writable s.cfg code || payloadOverflows payload) = true
  · rw [xwrite_rejected hrej, xwrite_rejected (h.cfg.symm ▸ hrej), h.cfg]
    exact ⟨rfl, h⟩
  · by_cases hcode : code = Command.rdacWrite.code
    · obtain ⟨p, rfl⟩ := payload_of_fits (admitted_of_not_rejected hrej).2
      have hwrote := h.afterWrite (0x0400 ||| p.setWidth 16)
      rw [hcode, xwrite_wiper, xwrite_wiper, h.writeCount, hwrote.readCount]
      split
      · refine ⟨rfl, ?_⟩
        unfold SameOffCache
        rw [forgetCache_refreshed, forgetCache_refreshed, hwrote]
      · exact ⟨rfl, hwrote⟩
    · rw [xwrite_plain (Bool.eq_false_of_not_eq_true hrej) hcode,
        xwrite_plain (h.cfg ▸ Bool.eq_false_of_not_eq_true hrej) hcode, h.writeCount]
      exact ⟨rfl, h.afterWrite _⟩

theorem SameOffCache.xread (h : SameOffCache s s') (code : Code) (payload : BitVec 16) :
    SameResult (Machine.xread code payload s) (Machine.xread code payload s') := by
  by_cases hrej : (!readable code || readDataRejected code payload) = true
  · rw [xread_rejected hrej, xread_rejected hrej]
    exact ⟨rfl, h⟩
  · have hadm := Bool.eq_false_of_not_eq_true hrej
    rw [xread_admitted hadm, xread_admitted hadm, h.readCount, h.readDatum]
    exact ⟨rfl, h.afterRead _⟩

theorem SameResult.respondWrite {r r' : WriteResult × State} (h : SameResult r r') :
    SameOffCache (Machine.respondWrite r) (Machine.respondWrite r') := by
  obtain ⟨hresult, hstate⟩ := h
  unfold Machine.respondWrite
  rw [hresult]
  exact hstate.respond _

theorem SameResult.respondRead {r r' : ReadResult × State} (h : SameResult r r') :
    SameOffCache (Machine.respondRead r) (Machine.respondRead r') := by
  obtain ⟨hresult, hstate⟩ := h
  have hfree : r'.2.freeValues = r.2.freeValues := hstate.eq_of (g := State.freeValues) fun _ => rfl
  unfold Machine.respondRead
  rw [hresult, hfree]
  split
  · exact hstate.respond _
  · exact (hstate.respond _).nextFree

theorem SameOffCache.beginUnlock (h : SameOffCache s s') :
    SameResult (Machine.beginUnlock s) (Machine.beginUnlock s') := (h.withCache _ _).xwrite _ _

theorem SameOffCache.beginWrite (h : SameOffCache s s') :
    SameResult (Machine.beginWrite s) (Machine.beginWrite s') := by
  unfold Machine.beginWrite
  rw [h.cfg]
  exact h.beginUnlock.2.xwrite _ _

theorem SameResult.beginEnd {r r' : WriteResult × State} (h : SameResult r r') (unlock : WriteResult) :
    SameOffCache (Machine.beginEnd unlock r) (Machine.beginEnd unlock r') := by
  obtain ⟨result, u⟩ := r
  obtain ⟨result', u'⟩ := r'
  obtain ⟨rfl, hstate⟩ : result' = result ∧ SameOffCache u u' := h
  exact hstate.map (g := fun u => Machine.beginEnd unlock (result', u)) fun _ => rfl

end

theorem Plan.run_sameOffCache {p : Plan} {s s' t t' : State} (h : SameOffCache s s')
    (ht : p.run s = .next t) (ht' : p.run s' = .next t') : SameOffCache t t' := by
  cases p with
  | answer r => cases ht; cases ht'; exact h.respond r
  | unstated r => cases ht; cases ht'; exact (h.respond r).nextFree
  | write code payload => cases ht; cases ht'; exact (h.xwrite code payload).respondWrite
  | read code payload => cases ht; cases ht'; exact (h.xread code payload).respondRead
  | verify control =>
    cases (execVerify_eq control s).symm.trans ht
    cases (execVerify_eq control s').symm.trans ht'
    exact h.verifyEnd control
  | begin =>
    cases (execBegin_eq s).symm.trans ht
    cases (execBegin_eq s').symm.trans ht'
    rw [h.beginUnlock.1]
    exact h.beginWrite.beginEnd _

/-- Settles O57: the same plan runs in both states, and what it does off the cache does not depend on the cache. -/
theorem otherOperationsIgnoreCache : Obligations.OtherOperationsIgnoreCache := by
  unfold Obligations.OtherOperationsIgnoreCache
  intro i s t t' v b o hreads ht ht'
  obtain ⟨p, hp⟩ := exec_carriedOut i s
  rw [hp.exec_eq] at ht
  rw [hp.of_cfg hreads { s with setting := v, settingValid := b, resistance := o } rfl] at ht'
  have hcache : SameOffCache s { s with setting := v, settingValid := b, resistance := o } := rfl
  have hsame : SameOffCache t t' := Plan.run_sameOffCache hcache ht ht'
  exact ⟨hsame.eq_of fun _ => rfl, hsame.eq_of fun _ => rfl, hsame.eq_of fun _ => rfl, hsame.eq_of fun _ => rfl⟩

end Sys2Proof.Machine
end

section
/-! PROOFS of spec/20_memory.md: in which order the calls of a write phase and of a read phase consume the script of the
transport's answers (R50, R58; the script is the model's own, log entry 3). -/

namespace Sys2Proof.Machine

open Sys2Proof.Safety

section
variable {o : Oracle}

/-! ### One call takes the head of its own list -/

theorem Oracle.nextAck_of_cons {a : Bool} {as : List Bool} (h : o.acks = a :: as) :
    o.nextAck = (a, { o with acks := as }) := by
  rw [Oracle.nextAck, h]

theorem Oracle.nextStatus_of_cons {e : Byte} {es : List Byte} (h : o.statuses = e :: es) :
    o.nextStatus = (e, { o with statuses := es }) := by
  rw [Oracle.nextStatus, h]

theorem Oracle.nextCount_of_cons {k : Fin 3} {ks : List (Fin 3)} (h : o.counts = k :: ks) :
    o.nextCount = (k, { o with counts := ks }) := by
  rw [Oracle.nextCount, h]

theorem Oracle.nextByte_of_cons {b : Byte} {bs : List Byte} (h : o.bytes = b :: bs) :
    o.nextByte = (b, { o with bytes := bs }) := by
  rw [Oracle.nextByte, h]

/-! ### One phase takes its answers in call order -/

theorem writeAnswers_of_cons {a1 a2 : Bool} {as : List Bool} {e : Byte} {es : List Byte}
    (hacks : o.acks = a1 :: a2 :: as) (hstatuses : o.statuses = e :: es) :
    writeAnswers o = (⟨a1, a2, e⟩, { o with acks := as, statuses := es }) := by
  have hfirst : o.nextAck = (a1, { o with acks := a2 :: as }) := Oracle.nextAck_of_cons hacks
  have hsecond : Oracle.nextAck { o with acks := a2 :: as } = (a2, { o with acks := as }) :=
    Oracle.nextAck_of_cons rfl
  have hend : Oracle.nextStatus { o with acks := as } = (e, { o with acks := as, statuses := es }) :=
    Oracle.nextStatus_of_cons hstatuses
  simp only [writeAnswers, hfirst, hsecond, hend]

variable {ks : List (Fin 3)} {b1 b2 : Byte} {bs : List Byte}

theorem readAnswers_of_count_zero (hcounts : o.counts = 0 :: ks) :
    readAnswers o = (.none, { o with counts := ks }) := by
  simp [readAnswers, Oracle.nextCount_of_cons hcounts]

theorem readAnswers_of_count_one (hcounts : o.counts = 1 :: ks) (hbytes : o.bytes = b1 :: bs) :
    readAnswers o = (.one b1, { o with counts := ks, bytes := bs }) := by
  have hbyte : Oracle.nextByte { o with counts := ks } = (b1, { o with counts := ks, bytes := bs }) :=
    Oracle.nextByte_of_cons hbytes
  simp [readAnswers, Oracle.nextCount_of_cons hcounts, hbyte]

theorem readAnswers_of_count_two (hcounts : o.counts = 2 :: ks) (hbytes : o.bytes = b1 :: b2 :: bs) :
    readAnswers o = (.two b1 b2, { o with counts := ks, bytes := bs }) := by
  have hfirst : Oracle.nextByte { o with counts := ks } = (b1, { o with counts := ks, bytes := b2 :: bs }) :=
    Oracle.nextByte_of_cons hbytes
  have hsecond : Oracle.nextByte { o with counts := ks, bytes := b2 :: bs } =
      (b2, { o with counts := ks, bytes := bs }) := Oracle.nextByte_of_cons rfl
  simp [readAnswers, Oracle.nextCount_of_cons hcounts, hfirst, hsecond]

end

/-- Settles O26, by the order in which the calls of each phase take the script's answers. -/
theorem scriptAnswersAreUsed : Obligations.ScriptAnswersAreUsed := by
  unfold Obligations.ScriptAnswersAreUsed
  intro o a1 a2 as e es ks b1 b2 bs
  exact ⟨writeAnswers_of_cons, readAnswers_of_count_zero, readAnswers_of_count_one, readAnswers_of_count_two⟩

end Sys2Proof.Machine
end

section
/-! SUPPORT. The decoder, said once: which words are frames and which requests name an operation (R80, R90, R98, R103),
and how a word is made up of the fields that are read off it (R81, R99, R100). -/

namespace Sys2Proof

open Safety

/-! ### Frames -/

/-- Bits 15:14, 13:10 and 9:0 are all of a frame (R81). -/
theorem packFrame_fields {w : FrameWord} {c : Command} (htop : frameTop w = 0) (hcode : frameCode w = c.code) :
    packFrame c (framePayload w) = w := by
  calc packFrame c (framePayload w)
      = frameTop w ++ frameCode w ++ framePayload w := by rw [htop, hcode]; rfl
    _ = w.extractLsb' 10 6 ++ w.extractLsb' 0 10 :=
        congrArg (· ++ framePayload w) (BitVec.extractLsb'_append_extractLsb'_eq_extractLsb' rfl)
    _ = w.extractLsb' 0 16 := BitVec.extractLsb'_append_extractLsb'_eq_extractLsb' rfl
    _ = w := BitVec.extractLsb'_eq_self

theorem exists_ofCode_iff : ∀ code : Code, (∃ c, Command.ofCode code = some c) ↔ code.toNat ≤ 9 := by
  simp only [← Option.isSome_iff_exists]
  decide

theorem decodeFrame_packFrame (c : Command) (p : Payload) : decodeFrame (packFrame c p) = .ok (c.instr p) := by
  simp [decodeFrame, frameTop_packFrame, frameCode_packFrame, framePayload_packFrame, ofCode_code]

theorem decodeFrame_of_top {w : FrameWord} (h : frameTop w ≠ 0) : decodeFrame w = .error (.topBits (frameTop w)) :=
  if_pos h

theorem decodeFrame_of_reserved {w : FrameWord} (htop : frameTop w = 0) (hcode : 9 < (frameCode w).toNat) :
    decodeFrame w = .error (.reservedCode (frameCode w)) := by
  have hnone : Command.ofCode (frameCode w) = none :=
    Option.eq_none_iff_forall_ne_some.2 fun c hc =>
      absurd ((exists_ofCode_iff _).1 ⟨c, hc⟩) (not_le.2 hcode)
  simp [decodeFrame, htop, hnone]

/-- The words that decode are the packed commands, and each decodes to its own command (R80, R81, R90). -/
theorem decodeFrame_eq_ok_iff {w : FrameWord} {i : Instr} :
    decodeFrame w = .ok i ↔ ∃ (c : Command) (p : Payload), w = packFrame c p ∧ i = c.instr p := by
  constructor
  · intro h
    by_cases htop : frameTop w = 0
    · by_cases hcode : (frameCode w).toNat ≤ 9
      · obtain ⟨c, hc⟩ := (exists_ofCode_iff _).2 hcode
        have hw : packFrame c (framePayload w) = w := packFrame_fields htop (Machine.ofCode_eq_some hc)
        rw [← hw, decodeFrame_packFrame] at h
        cases h
        exact ⟨c, _, hw.symm, rfl⟩
      · rw [decodeFrame_of_reserved htop (not_le.1 hcode)] at h
        cases h
    · rw [decodeFrame_of_top htop] at h
      cases h
  · rintro ⟨c, p, rfl, rfl⟩
    exact decodeFrame_packFrame c p

theorem encode_command (c : Command) (p : Payload) : encode (c.instr p) = .frame (packFrame c p) := by
  cases c <;> rfl

/-! ### Requests -/

theorem decodeReq_of_operation {w : ReqWord} (h : (reqOp w).toNat ≤ 0x10) : ∃ i, decodeReq w = .ok i := by
  unfold decodeReq
  split
  case h_18 =>
    simp only [imp_false] at *
    omega
  all_goals exact ⟨_, rfl⟩

theorem decodeReq_of_reserved {w : ReqWord} (h : 0x11 ≤ (reqOp w).toNat) :
    decodeReq w = .error (.reservedOp (reqOp w)) := by
  unfold decodeReq
  split
  case h_18 => rfl
  all_goals omega

/-- Bits 40:36, 35:32 and 31:0 are all of a request (R99). -/
theorem packReq_fields (w : ReqWord) : packReq (reqOp w) (reqCmd w) (reqArg w) = w := by
  calc packReq (reqOp w) (reqCmd w) (reqArg w)
      = w.extractLsb' 32 9 ++ w.extractLsb' 0 32 :=
        congrArg (· ++ reqArg w) (BitVec.extractLsb'_append_extractLsb'_eq_extractLsb' rfl)
    _ = w.extractLsb' 0 41 := BitVec.extractLsb'_append_extractLsb'_eq_extractLsb' rfl
    _ = w := BitVec.extractLsb'_eq_self

theorem packReq_and (op op' : BitVec 5) (cmd cmd' : Code) (arg arg' : BitVec 32) :
    packReq op cmd arg &&& packReq op' cmd' arg' = packReq (op &&& op') (cmd &&& cmd') (arg &&& arg') :=
  BitVec.and_append.trans (congrArg (· ++ (arg &&& arg')) BitVec.and_append)

/-- An operand read off the low bits of `arg` is `arg` with the bits above cleared (R100). -/
theorem setWidth_lowBits (w : ReqWord) (k : Nat) :
    (w.extractLsb' 0 k).setWidth 32 = reqArg w &&& BitVec.ofNat 32 (2 ^ k - 1) := by
  ext i hi
  rw [BitVec.getElem_setWidth, BitVec.getLsbD_extractLsb', BitVec.getElem_and,
    ← BitVec.getLsbD_eq_getElem (x := BitVec.ofNat 32 _), BitVec.getLsbD_ofNat, Nat.testBit_two_pow_sub_one]
  simp [hi, reqArg, Bool.and_comm]

section
variable {w : ReqWord} {op : BitVec 5} {cmd : Code} {arg : BitVec 32}

/-- A request made of some bits of each field of `w`, when those are the bits its operation uses. -/
theorem packReq_masked_eq (hop : (reqOp w).toNat = op.toNat) (hused : usedBits op = packReq 0x1F cmd arg) :
    packReq op (reqCmd w &&& cmd) (reqArg w &&& arg) = w &&& usedBits (reqOp w) := by
  obtain rfl : reqOp w = op := BitVec.eq_of_toNat_eq hop
  have hall : reqOp w &&& 0x1F = reqOp w := BitVec.and_allOnes
  rw [hused]
  conv_rhs => rw [← packReq_fields w, packReq_and, hall]

/-- The operations that use no operand. -/
theorem packReq_eq_of_no_operand (hop : (reqOp w).toNat = op.toNat) (hused : usedBits op = packReq 0x1F 0 0) :
    packReq op 0 0 = w &&& usedBits (reqOp w) := by
  simpa using packReq_masked_eq hop hused

/-- The operations that use all of `arg`. -/
theorem packReq_eq_of_arg (hop : (reqOp w).toNat = op.toNat)
    (hused : usedBits op = packReq 0x1F 0 (BitVec.allOnes 32)) :
    packReq op 0 (reqArg w) = w &&& usedBits (reqOp w) := by
  have harg : reqArg w &&& BitVec.allOnes 32 = reqArg w := BitVec.and_allOnes
  rw [← packReq_masked_eq hop hused, harg]
  simp

/-- The operations that use the low bits of `arg`. -/
theorem packReq_eq_of_lowArg {k : Nat} (hop : (reqOp w).toNat = op.toNat)
    (hused : usedBits op = packReq 0x1F 0 (BitVec.ofNat 32 (2 ^ k - 1))) :
    packReq op 0 ((w.extractLsb' 0 k).setWidth 32) = w &&& usedBits (reqOp w) := by
  rw [setWidth_lowBits, ← packReq_masked_eq hop hused]
  simp

/-- The operations that use `cmd` and the low half of `arg`. -/
theorem packReq_eq_of_cmd_lowArg (hop : (reqOp w).toNat = op.toNat)
    (hused : usedBits op = packReq 0x1F (BitVec.allOnes 4) (BitVec.ofNat 32 (2 ^ 16 - 1))) :
    packReq op (reqCmd w) ((reqArg16 w).setWidth 32) = w &&& usedBits (reqOp w) := by
  have hcmd : reqCmd w &&& BitVec.allOnes 4 = reqCmd w := BitVec.and_allOnes
  rw [reqArg16, setWidth_lowBits, ← packReq_masked_eq hop hused, hcmd]

end

/-- The encoder keeps the bits that R99 and R100 give the decoded operation, and no other (log entry 16). -/
theorem encode_of_decodeReq {w : ReqWord} {i : Instr} (h : decodeReq w = .ok i) :
    encode i = .req (w &&& usedBits (reqOp w)) := by
  unfold decodeReq at h
  split at h <;> cases h
  case h_1 hop | h_3 hop | h_4 hop => exact congrArg Request.req (packReq_eq_of_cmd_lowArg hop rfl)
  case h_5 hop | h_7 hop | h_12 hop | h_14 hop => exact congrArg Request.req (packReq_eq_of_arg hop rfl)
  case h_2 hop | h_6 hop | h_10 hop | h_16 hop => exact congrArg Request.req (packReq_eq_of_lowArg hop rfl)
  case h_8 hop | h_9 hop | h_11 hop | h_13 hop | h_15 hop | h_17 hop =>
    exact congrArg Request.req (packReq_eq_of_no_operand hop rfl)

theorem decode_encode (i : Instr) : decode (encode i) = .ok i := by
  cases i with
  | nop p | rdacWrite p | rdacRead p | tpWrite p | rdacRefresh p | tpWiperRead p | tpLastUsed p | controlWrite p
    | controlRead p | shutdown p => exact decodeFrame_packFrame _ p
  | encode cmd payload | xwrite cmd payload | xread cmd payload =>
    simp [encode, decode, decodeReq, reqOp_packReq, reqCmd_packReq, reqArg16_packReq]
  | clamp v | fromres v | setset v | setres v => simp [encode, decode, decodeReq, reqOp_packReq, reqArg_packReq]
  | decode v | shutdn v => simp [encode, decode, decodeReq, reqOp_packReq, reqArg16_packReq]
  | tores raw => simp [encode, decode, decodeReq, reqOp_packReq, reqArg10_packReq]
  | verify control => simp [encode, decode, decodeReq, reqOp_packReq, reqArg8_packReq]
  | inc | dec | beginOp | getset | getres | enwiper => rfl

end Sys2Proof
end

section
/-! PROOFS of spec/30_encoding.md: decoder and encoder of the two formats (R80 to R92, R98 to R100, R103). -/

namespace Sys2Proof

/-- Settles O1: a case per row of the opcode table. -/
theorem decodeReadsBackEveryEncoding : Obligations.DecodeReadsBackEveryEncoding := decode_encode

/-- Settles O2: a frame that decodes is a packed command; a request is restored field by field. -/
theorem encodeRestoresTheDecodedBits : Obligations.EncodeRestoresTheDecodedBits := by
  unfold Obligations.EncodeRestoresTheDecodedBits
  constructor
  · intro w i h
    obtain ⟨c, p, rfl, rfl⟩ := decodeFrame_eq_ok_iff.1 h
    exact encode_command c p
  · intro w i h
    exact encode_of_decodeReq h

/-- Settles O3, by running the decoder on the seven words. -/
theorem writtenWordsDecode : Obligations.WrittenWordsDecode := by
  unfold Obligations.WrittenWordsDecode
  decide

/-- Settles O4: the operation numbers up to 0x10 decode, the others are reserved. -/
theorem requestDecodesIffOperation : Obligations.RequestDecodesIffOperation := by
  unfold Obligations.RequestDecodesIffOperation
  intro w
  constructor
  · rintro ⟨i, hi⟩
    by_contra hop
    cases (decodeReq_of_reserved (not_le.1 hop)).symm.trans hi
  · exact decodeReq_of_operation

/-- Settles O5: the frames that decode are the packed commands, and the codes 0 to 9 name one each. -/
theorem frameDecodesIffCommand : Obligations.FrameDecodesIffCommand := by
  unfold Obligations.FrameDecodesIffCommand
  intro w
  constructor
  · rintro ⟨i, hi⟩
    obtain ⟨c, p, rfl, -⟩ := decodeFrame_eq_ok_iff.1 hi
    rw [frameCode_packFrame]
    exact ⟨frameTop_packFrame c p, (exists_ofCode_iff _).1 ⟨c, ofCode_code c⟩⟩
  · rintro ⟨htop, hcode⟩
    obtain ⟨c, hc⟩ := (exists_ofCode_iff _).2 hcode
    rw [← packFrame_fields htop (Machine.ofCode_eq_some hc)]
    exact ⟨_, decodeFrame_packFrame c _⟩

end Sys2Proof
end

section
/-! SUPPORT. What a step does with the next request (R98, R103, R256), and the ends of XWRITE and XREAD as the
vocabulary of the statements has them. -/

namespace Sys2Proof.Machine

open Sys2Proof.Safety

/-! ### The next request -/

section
variable {s : State} {r : Request} {rest : List Request}

theorem acceptRequest_of_cons (hreq : s.requests = r :: rest) (hidle : s.vstate = .idle) :
    acceptRequest s = some (r, s.setRequests rest) := by
  simp [acceptRequest, hreq, hidle]

theorem step_of_decode_ok {i : Instr} (hreq : s.requests = r :: rest) (hidle : s.vstate = .idle)
    (hdec : decode r = .ok i) : step s = exec i (s.setRequests rest) := by
  simp [step, acceptRequest_of_cons hreq hidle, hdec]

theorem step_of_decode_error {e : DecodeError} (hreq : s.requests = r :: rest) (hidle : s.vstate = .idle)
    (hdec : decode r = .error e) : step s = answerUndecoded e (s.setRequests rest) := by
  simp [step, acceptRequest_of_cons hreq hidle, hdec]

end

theorem decode_of_decodeTableWord {nbits w : Nat} {i : Instr} (h : decodeTableWord nbits w = some i) :
    decode (tableRequest nbits w) = .ok i := by
  unfold decodeTableWord at h
  split at h
  · split at h
    next hdec => cases h; exact hdec
    next => cases h
  · cases h

/-! ### Rejection, and one write phase -/

theorem respondWrite_rejected (rejCmd rejData : Bool) (s : State) :
    respondWrite (.rejected rejCmd rejData, s) = turnedAway rejCmd rejData false s := rfl

theorem respondRead_rejected (rejCmd rejData : Bool) (s : State) :
    respondRead (.rejected rejCmd rejData, s) =
      { responded { plain with kind := .rejected, value := (Config.freeDatum s.freeValues).setWidth 17,
                               rejCmd := rejCmd, rejData := rejData } s with
        freeValues := s.freeValues + 1 } := rfl

theorem respondWrite_afterWrite (f : FrameWord) (s : State) :
    respondWrite (if writeCount s = 0 then .ok 0 else .failed (BitVec.ofNat 4 (writeCount s)), afterWrite f s) =
      wroteFrame f s := by
  unfold wroteFrame
  split <;> rfl

theorem payload_fits (p : Payload) : payloadOverflows (p.setWidth 16) = false := by
  simp [payloadOverflows]
  omega

end Sys2Proof.Machine
end

section
/-! PROOFS of spec/30_encoding.md: what the request port does with a request that decodes and with one that does not
(R90, R98, R99, R103, R256), and the two wire commands that may be rejected (R86, R92, R120, R125). -/

namespace Sys2Proof.Machine

open Sys2Proof.Safety

/-- Settles O41: the step accepts that request and runs what it decodes to. -/
theorem stepRunsDecodedInstruction : Obligations.StepRunsDecodedInstruction := by
  unfold Obligations.StepRunsDecodedInstruction
  intro s r rest i hreq hidle hdec
  exact step_of_decode_ok hreq hidle hdec

/-- Settles O43: the decoder names the reserved operation, and the port answers it. -/
theorem reservedOperationRejected : Obligations.ReservedOperationRejected := by
  unfold Obligations.ReservedOperationRejected
  intro s w rest hreq hidle hop
  exact step_of_decode_error hreq hidle (decodeReq_of_reserved hop)

/-- Settles O44: a reserved code is answered as a reserved operation is, other top bits are refused. -/
theorem bareWordThatIsNoFrame : Obligations.BareWordThatIsNoFrame := by
  unfold Obligations.BareWordThatIsNoFrame
  intro s w rest hreq hidle
  constructor
  · intro htop hcode
    exact step_of_decode_error hreq hidle (decodeFrame_of_reserved htop hcode)
  · intro htop
    exact step_of_decode_error hreq hidle (decodeFrame_of_top htop)

/-- Settles O45: the presented request stands first, the verifier is `Idle`, and the requests behind it are those of
`s`. -/
theorem fetchWordRunsNext : Obligations.FetchWordRunsNext := by
  unfold Obligations.FetchWordRunsNext
  intro s nbits w i h
  exact step_of_decode_ok (s := s.withFetchWord nbits w) rfl rfl (decode_of_decodeTableWord h)

/-- Settles O30: TP_WIPER_READ is readable, so the location alone rejects it. -/
theorem wiperReadRejectsWideLocation : Obligations.WiperReadRejectsWideLocation := by
  unfold Obligations.WiperReadRejectsWideLocation
  intro p s hwide
  have hdata : readDataRejected Command.tpWiperRead.code (p.setWidth 16) = true := by
    have hlocation : locationOverflows (p.setWidth 16) = true := by
      simp [locationOverflows]
      omega
    simp [readDataRejected, hlocation]
  have hread : xread Command.tpWiperRead.code (p.setWidth 16) s = (.rejected false true, s) := by
    rw [xread_rejected (by simp [hdata]), hdata]
    rfl
  have hexec : exec (.tpWiperRead p) s =
      .next (respondRead (xread Command.tpWiperRead.code (p.setWidth 16) s)) := rfl
  rw [hread, respondRead_rejected] at hexec
  exact ⟨_, hexec⟩

/-- Settles O31: NOP is writable as the configuration says, it carries no payload, and it makes no refresh. -/
theorem nopFollowsConfiguration : Obligations.NopFollowsConfiguration := by
  unfold Obligations.NopFollowsConfiguration
  intro p s
  have hexec : exec (.nop p) s = .next (respondWrite (xwrite Command.nop.code (p.setWidth 16) s)) := rfl
  have hadm : writable s.cfg Command.nop.code = s.cfg.nopWritable := rfl
  have hfits := payload_fits p
  have hframe : encodeFrame Command.nop.code (writePayload Command.nop.code (p.setWidth 16)) = 0x0000 :=
    show encodeFrame Command.nop.code 0 = 0x0000 by decide
  constructor
  · intro hnop
    rw [hexec, xwrite_plain (by simp [hadm, hnop, hfits]) (by decide), respondWrite_afterWrite, hframe]
  · intro hnop
    rw [hexec, xwrite_rejected (by simp [hadm, hnop]), respondWrite_rejected, hadm, hnop, hfits]
    rfl

end Sys2Proof.Machine
end

section
/-! SUPPORT. Which responses the block can give (R101, R154, R243), said once for XWRITE, XREAD and VERIFY and then for
every instruction. -/

namespace Sys2Proof.Machine

open Sys2Proof.Safety

/-! ### The results of XWRITE and XREAD -/

/-- A result that XWRITE can give: a rejection names its reason, a count is not 0, and a `refresh_count` comes from a
command that writes the wiper (R150, R152). -/
def WriteResult.Sound (wiper : Bool) : WriteResult → Prop
  | .ok k => k ≠ 0 → wiper = true
  | .failed n => n ≠ 0
  | .rejected rejCmd rejData => (rejCmd || rejData) = true

/-- A result that XREAD can give: a rejection names its reason, a count is 1 to 5 (R150, R154). -/
def ReadResult.Sound : ReadResult → Prop
  | .ok _ => True
  | .failed n => n ≠ 0 ∧ n.toNat ≤ 5
  | .rejected rejCmd rejData => (rejCmd || rejData) = true

section
variable {code : Code} {payload : BitVec 16} {s : State}

theorem writeCount_failed_sound {wiper : Bool} (h : writeCount s ≠ 0) :
    (WriteResult.failed (BitVec.ofNat 4 (writeCount s))).Sound wiper := fun hz =>
  h ((acc_ofNat_eq_zero (le_trans (writeCount_le s) (by decide))).1 hz)

theorem xwrite_sound {wiper : Bool} (hw : code = Command.rdacWrite.code → wiper = true) :
    (xwrite code payload s).1.Sound wiper := by
  by_cases hrej : (!writable s.cfg code || payloadOverflows payload) = true
  · rw [xwrite_rejected hrej]
    exact hrej
  · by_cases hcode : code = Command.rdacWrite.code
    · obtain ⟨p, rfl⟩ := payload_of_fits (admitted_of_not_rejected hrej).2
      rw [hcode, xwrite_wiper]
      split
      next => exact fun _ => hw hcode
      next h0 => exact writeCount_failed_sound h0
    · rw [xwrite_plain (Bool.eq_false_of_not_eq_true hrej) hcode]
      split
      next => exact fun h => absurd rfl h
      next h0 => exact writeCount_failed_sound h0

theorem xread_sound : (xread code payload s).1.Sound := by
  by_cases hrej : (!readable code || readDataRejected code payload) = true
  · rw [xread_rejected hrej]
    exact hrej
  · rw [xread_admitted (Bool.eq_false_of_not_eq_true hrej)]
    have h5 := readCount_le s
    split
    next => trivial
    next h0 =>
      refine ⟨fun hz => h0 ((acc_ofNat_eq_zero (le_trans h5 (by decide))).1 hz), ?_⟩
      rw [BitVec.toNat_ofNat]
      exact le_trans (Nat.mod_le _ _) h5

end

theorem respondRead_rsp (r : ReadResult × State) :
    (respondRead r).rsp = some (r.1.response (Config.freeDatum r.2.freeValues)) := by
  obtain ⟨res, s⟩ := r
  cases res <;> rfl

/-! ### The signed view -/

theorem Response.legacy_of_ok {r : Response} (h : r.kind = .ok) : r.legacy = r.value.toNat := by
  simp [Response.legacy, h]

theorem Response.legacy_of_failed {r : Response} (h : r.kind = .failed) : r.legacy = -(r.count.toNat : Int) := by
  simp [Response.legacy, h]

theorem Response.legacy_of_rejected {r : Response} (h : r.kind = .rejected) : r.legacy = -100 := by
  simp [Response.legacy, h]

/-- The ranges of `value` and `count` that keep the three kinds apart in the signed view (R102). -/
structure Response.InReadRange (r : Response) : Prop where
  value_le : r.kind = .ok → r.value.toNat ≤ 65535
  count_pos : r.kind = .failed → 1 ≤ r.count.toNat
  count_le : r.kind = .failed → r.count.toNat ≤ 5

theorem ReadResult.Sound.inReadRange {res : ReadResult} (h : res.Sound) (v : BitVec 16) :
    (res.response v).InReadRange := by
  cases res with
  | ok d =>
    refine ⟨fun _ => ?_, nofun, nofun⟩
    have hd := d.isLt
    simp only [ReadResult.response, Response.ok, BitVec.toNat_setWidth]
    omega
  | failed n =>
    obtain ⟨hpos, hle⟩ := h
    exact ⟨nofun, fun _ => Nat.pos_of_ne_zero fun h0 => hpos (BitVec.eq_of_toNat_eq h0), fun _ => hle⟩
  | rejected rejCmd rejData => exact ⟨nofun, nofun, nofun⟩

/-! ### The fields of a response -/

/-- The fields of a response agree with its kind, and VERIFY and the operations that write the wiper alone fill the
fields that are theirs. -/
structure Response.Agrees (verify wiper : Bool) (r : Response) : Prop where
  failed_iff : r.kind = .failed ↔ r.count ≠ 0
  rejected_iff : r.kind = .rejected ↔ (r.rejCmd || r.rejData || r.rejState) = true
  mismatch_failed : r.mismatch = true → r.kind = .failed
  verify_only : (r.rangeFlag || r.mismatch) = true → verify = true
  wiper_only : r.refreshCount ≠ 0 → wiper = true

section
variable {verify wiper : Bool}

theorem Response.ok_agrees (v : BitVec 17) : (Response.ok v).Agrees verify wiper := by
  constructor <;> simp [Response.ok]

theorem Response.failed_agrees {n : BitVec 4} (hn : n ≠ 0) (v : BitVec 17) :
    (Response.failed n v).Agrees verify wiper := by
  constructor <;> simp [Response.failed, Response.ok]
  exact hn

theorem Response.rejected_agrees {rejCmd rejData rejState : Bool} (h : (rejCmd || rejData || rejState) = true)
    (v : BitVec 17) : (Response.rejected rejCmd rejData rejState v).Agrees verify wiper := by
  constructor <;> simp [Response.rejected, Response.ok]
  simpa using h

/-- Filling in `refresh_count` where the wiper is written. -/
theorem Response.Agrees.refresh {r : Response} (h : r.Agrees verify wiper) {k : BitVec 3}
    (hk : k ≠ 0 → wiper = true) : { r with refreshCount := k }.Agrees verify wiper :=
  { h with wiper_only := hk }

/-- Filling in the two fields of VERIFY; a mismatch counts, so it fails (R194). -/
theorem Response.Agrees.verified {r : Response} (h : r.Agrees true wiper) (range : Bool) {mismatch : Bool}
    (hm : mismatch = true → r.kind = .failed) :
    { r with rangeFlag := range, mismatch := mismatch }.Agrees true wiper :=
  { h with mismatch_failed := hm, verify_only := fun _ => rfl }

theorem WriteResult.Sound.agrees {res : WriteResult} (h : res.Sound wiper) : res.response.Agrees verify wiper := by
  cases res with
  | ok k => exact (Response.ok_agrees 0).refresh h
  | failed n => exact Response.failed_agrees h 0
  | rejected rejCmd rejData => exact Response.rejected_agrees (by rw [Bool.or_false]; exact h) 0

theorem ReadResult.Sound.agrees {res : ReadResult} (h : res.Sound) (v : BitVec 16) :
    (res.response v).Agrees verify wiper := by
  cases res with
  | ok d => exact Response.ok_agrees _
  | failed n => exact Response.failed_agrees h.1 _
  | rejected rejCmd rejData => exact Response.rejected_agrees (by rw [Bool.or_false]; exact h) _

/-- `Ok` or `Failed` by a count, as VERIFY and BEGIN answer. -/
theorem Response.counted_agrees (n : BitVec 4) :
    (if n = 0 then Response.ok 0 else Response.failed n 0).Agrees verify wiper := by
  split
  next => exact Response.ok_agrees 0
  next hn => exact Response.failed_agrees hn 0

end

/-! ### Every instruction answers with such a response -/

/-- The state carries a response whose fields agree. -/
def Responded (verify wiper : Bool) (s : State) : Prop :=
  ∃ r : Response, s.rsp = some r ∧ r.Agrees verify wiper

section
variable {verify wiper : Bool} {s : State}

theorem xwrite_responded {code : Code} {payload : BitVec 16} (hw : code = Command.rdacWrite.code → wiper = true) :
    Responded verify wiper (respondWrite (xwrite code payload s)) :=
  ⟨_, rfl, (xwrite_sound hw).agrees⟩

theorem xread_responded {code : Code} {payload : BitVec 16} :
    Responded verify wiper (respondRead (xread code payload s)) :=
  ⟨_, respondRead_rsp _, xread_sound.agrees _⟩

theorem ok_responded (v : BitVec 17) : Responded verify wiper (s.respond (.ok v)) :=
  ⟨_, rfl, Response.ok_agrees v⟩

theorem stepSetting_responded (delta : Int) : Responded verify true (stepSetting delta s) := by
  unfold stepSetting
  split
  · exact ⟨_, rfl, Response.rejected_agrees rfl 0⟩
  · exact xwrite_responded fun _ => rfl

theorem execEncode_responded (cmd : Code) (payload : BitVec 16) :
    ∃ t, execEncode cmd payload s = .next t ∧ Responded verify wiper t := by
  refine ⟨_, rfl, _, rfl, ?_⟩
  split
  next hrej => exact Response.rejected_agrees (by rw [Bool.or_false]; exact hrej) _
  next => exact Response.ok_agrees _

theorem beginEnd_responded : Responded verify true (beginEnd (beginUnlock s).1 (beginWrite s)) :=
  ⟨_, rfl, (Response.counted_agrees _).refresh fun _ => rfl⟩

/-- Where VERIFY ends: `Done` exactly when nothing was counted, and a mismatch was counted (R194, R196). -/
theorem verifyFinish_done_iff {nw : Nat} {r : TxnResult} {control : BitVec 8}
    (h : nw + r.errors + (if r.mismatch (controlBits control) then 1 else 0) ≤ 8) (s : State) :
    (verifyFinish nw r control s).vstate = .done ↔ (verifyFinish nw r control s).acc = 0 := by
  simp only [verifyFinish, State.setVState_vstate, State.setVState_acc, State.setAcc_acc]
  rw [acc_ofNat_eq_zero h, ite_eq_left_iff, imp_iff_not (by decide), not_not]

theorem verifyFinish_not_done {nw : Nat} {r : TxnResult} {control : BitVec 8}
    (h : r.mismatch (controlBits control) = true) (s : State) : (verifyFinish nw r control s).vstate ≠ .done := by
  simp [verifyFinish, h]

theorem verifyEnd_responded (control : BitVec 8) : Responded true wiper (verifyEnd control s) := by
  refine ⟨_, rfl, ?_⟩
  unfold verifyResponse
  have hdone := verifyFinish_done_iff (verifyTotal_le control s (afterWrite (verifyFrame control) s))
    (afterRead verifyReadFrame (afterWrite (verifyFrame control) s))
  refine Response.Agrees.verified ?_ _ fun hmis => ?_
  · rw [if_congr hdone rfl rfl]
    exact Response.counted_agrees _
  · rw [if_neg (verifyFinish_not_done hmis _)]
    rfl

end

/-- Whether the instruction is VERIFY, which alone fills `range_flag` and `mismatch` (R101). -/
def isVerify : Instr → Bool
  | .verify _ => true
  | _ => false

theorem eq_verify_of_isVerify {i : Instr} (h : isVerify i = true) : ∃ control, i = .verify control := by
  unfold isVerify at h
  split at h
  next control => exact ⟨control, rfl⟩
  next => cases h

theorem exec_responds (i : Instr) (s : State) :
    ∃ t, exec i s = .next t ∧ Responded (isVerify i) (writesWiper i) t := by
  cases i with
  | rdacRead | tpWiperRead | tpLastUsed | controlRead | xread => exact ⟨_, rfl, xread_responded⟩
  | nop | tpWrite | rdacRefresh | controlWrite | shutdown | shutdn | enwiper =>
    exact ⟨_, rfl, xwrite_responded nofun⟩
  | rdacWrite | setset | setres => exact ⟨_, rfl, xwrite_responded fun _ => rfl⟩
  | xwrite cmd payload => exact ⟨_, rfl, xwrite_responded decide_eq_true⟩
  | encode cmd payload => exact execEncode_responded cmd payload
  | decode | clamp | tores | fromres => exact ⟨_, rfl, ok_responded _⟩
  | inc => exact ⟨_, rfl, stepSetting_responded 1⟩
  | dec => exact ⟨_, rfl, stepSetting_responded (-1)⟩
  | verify control => exact ⟨_, execVerify_eq control s, verifyEnd_responded control⟩
  | beginOp => exact ⟨_, execBegin_eq s, beginEnd_responded⟩
  | getset =>
    refine ⟨_, rfl, ?_⟩
    split
    · exact ⟨_, rfl, Response.rejected_agrees rfl _⟩
    · exact ok_responded _
  | getres =>
    refine ⟨_, rfl, ?_⟩
    split
    · exact ⟨_, rfl, Response.rejected_agrees rfl _⟩
    · exact ok_responded _

end Sys2Proof.Machine
end

section
/-! PROOFS of spec/30_encoding.md: the fields of a response and the signed view of a read (R101, R102). -/

namespace Sys2Proof.Machine

open Sys2Proof.Safety

/-- Settles O25: the value of a read is a 16-bit datum and its count is 1 to 5, so the three ranges do not meet. -/
theorem signedViewTellsReadsApart : Obligations.SignedViewTellsReadsApart := by
  unfold Obligations.SignedViewTellsReadsApart
  intro code payload s t r hexec hrsp
  have ht : respondRead (xread code payload s) = t := by
    cases hexec
    rfl
  have hr : (xread code payload s).1.response _ = r := Option.some.inj <| by
    rw [← hrsp, ← ht, respondRead_rsp]
  obtain ⟨hvalue, hpos, hle⟩ : r.InReadRange := hr ▸ xread_sound.inReadRange _
  refine ⟨Response.legacy_of_ok, Response.legacy_of_failed, Response.legacy_of_rejected, ?_⟩
  cases hkind : r.kind with
  | ok =>
    have hv := hvalue hkind
    simp only [Response.legacy_of_ok hkind, reduceCtorEq, true_iff, false_iff, true_and]
    omega
  | failed =>
    have h1 := hpos hkind
    have h5 := hle hkind
    simp only [Response.legacy_of_failed hkind, reduceCtorEq, true_iff, false_iff]
    omega
  | rejected => simp [Response.legacy_of_rejected hkind]

/-- Settles O56: the one response an instruction gives has agreeing fields. -/
theorem responseFieldsAgreeWithKind : Obligations.ResponseFieldsAgreeWithKind := by
  unfold Obligations.ResponseFieldsAgreeWithKind
  intro i s t r hexec hrsp
  obtain ⟨t', hexec', r', hrsp', hagrees⟩ := exec_responds i s
  obtain rfl : t' = t := Host.Outcome.next.inj (hexec'.symm.trans hexec)
  obtain rfl : r' = r := Option.some.inj (hrsp'.symm.trans hrsp)
  exact ⟨hagrees.failed_iff, hagrees.rejected_iff, hagrees.mismatch_failed,
    fun h => eq_verify_of_isVerify (hagrees.verify_only h), hagrees.wiper_only⟩

end Sys2Proof.Machine
end

section
/-! SUPPORT. The codec in numbers: the value of an encoded frame, of the fields read off a word, and of the two
responses (R82, R110, R112). -/

namespace Sys2Proof.Machine

open Sys2Proof.Safety

/-! ### Words as numbers -/

/-- Two fields side by side: the high one counts in units of the low one's size. -/
theorem toNat_append_eq_add {m n : Nat} (a : BitVec m) (b : BitVec n) :
    (a ++ b).toNat = a.toNat * 2 ^ n + b.toNat := by
  rw [BitVec.toNat_append, ← Nat.shiftLeft_add_eq_or_of_lt b.isLt, Nat.shiftLeft_eq]

theorem toNat_and_payloadMask (p : BitVec 16) : (p &&& 0x3FF).toNat = p.toNat % 0x400 := by
  rw [BitVec.toNat_and]
  exact Nat.and_two_pow_sub_one_eq_mod p.toNat 10

theorem toNat_and_fieldsMask (w : BitVec 16) : (w &&& 0x3FFF).toNat = w.toNat % 0x4000 := by
  rw [BitVec.toNat_and]
  exact Nat.and_two_pow_sub_one_eq_mod w.toNat 14

/-! ### Frames -/

/-- The frame's two terms have no bit in common, so `|` is their sum (R82). -/
theorem toNat_encodeFrame (code : Code) (payload : BitVec 16) :
    (encodeFrame code payload).toNat = code.toNat * 0x400 + payload.toNat % 0x400 := by
  have hcode : (code.setWidth 16 <<< 10 : BitVec 16).toNat = code.toNat <<< 10 := by
    have := code.isLt
    simp only [BitVec.toNat_shiftLeft, BitVec.toNat_setWidth, Nat.shiftLeft_eq]
    omega
  have hlow : payload.toNat % 0x400 < 2 ^ 10 := Nat.mod_lt _ (by decide)
  rw [encodeFrame, BitVec.toNat_or, hcode, toNat_and_payloadMask, ← Nat.shiftLeft_add_eq_or_of_lt hlow,
    Nat.shiftLeft_eq]

theorem toNat_frameCode (w : FrameWord) : (frameCode w).toNat = w.toNat % 0x4000 / 0x400 := by
  rw [frameCode, BitVec.extractLsb'_toNat, Nat.shiftRight_eq_div_pow]
  omega

theorem toNat_framePayload (w : FrameWord) : (framePayload w).toNat = w.toNat % 0x400 := by
  rw [framePayload, BitVec.extractLsb'_toNat, Nat.shiftRight_zero]

/-- The code field of any frame ENCODE makes is its code, also where the code names no command. -/
theorem frameCode_encodeFrame (code : Code) (payload : BitVec 16) : frameCode (encodeFrame code payload) = code := by
  apply BitVec.eq_of_toNat_eq
  have := code.isLt
  rw [toNat_frameCode, toNat_encodeFrame]
  omega

/-- The payload field of any frame ENCODE makes is the low ten bits of its payload, also of one that is too wide. -/
theorem framePayload_encodeFrame (code : Code) (payload : BitVec 16) :
    framePayload (encodeFrame code payload) = payload.setWidth 10 := by
  apply BitVec.eq_of_toNat_eq
  rw [toNat_framePayload, toNat_encodeFrame, BitVec.toNat_setWidth]
  omega

theorem setWidth_payload_eq_mask (payload : BitVec 16) :
    ((payload.setWidth 10).setWidth 16 : BitVec 16) = payload &&& 0x3FF := by
  apply BitVec.eq_of_toNat_eq
  rw [toNat_and_payloadMask, BitVec.toNat_setWidth, BitVec.toNat_setWidth]
  omega

/-- The two fields of a word are its bits 13:0 (R81). -/
theorem encodeFrame_fields (w : FrameWord) :
    encodeFrame (frameCode w) ((framePayload w).setWidth 16) = w &&& 0x3FFF := by
  apply BitVec.eq_of_toNat_eq
  rw [toNat_encodeFrame, toNat_and_fieldsMask, toNat_frameCode, BitVec.toNat_setWidth, toNat_framePayload]
  omega

/-! ### The responses -/

/-- The value of a DECODE response: `known` at bit 14 above bits 13:0 of the word (R112, log entry 9). -/
theorem decodeValue_eq (w : FrameWord) :
    decodeValue w =
      BitVec.ofNat 17 ((if w.toNat % 0x4000 / 0x400 ≤ 9 then 0x4000 else 0) + w.toNat % 0x4000) := by
  have hvalue : decodeValue w = BitVec.ofNat 17
      (((!codeUnknown (frameCode w)).toNat * 2 ^ 4 + w.toNat % 0x4000 / 0x400) * 2 ^ 10 + w.toNat % 0x400) := by
    rw [decodeValue, ← BitVec.ofNat_toNat, toNat_append_eq_add, toNat_append_eq_add, BitVec.toNat_ofBool,
      toNat_frameCode, toNat_framePayload]
  rw [hvalue, codeUnknown, toNat_frameCode]
  by_cases hknown : w.toNat % 0x4000 / 0x400 ≤ 9
  · rw [decide_eq_false (not_lt.2 hknown), if_pos hknown, Bool.not_false, Bool.toNat_true]
    exact congrArg (BitVec.ofNat 17) (by omega)
  · rw [decide_eq_true (not_le.1 hknown), if_neg hknown, Bool.not_true, Bool.toNat_false]
    exact congrArg (BitVec.ofNat 17) (by omega)

theorem exec_decode (w : BitVec 16) (s : State) : exec (.decode w) s = .next (answered (decodeValue w) s) := rfl

/-- The value of an ENCODE response is the frame, whatever the kind. -/
theorem encodeFrame_value (code : Code) (payload : BitVec 16) :
    (encodeFrame code payload).setWidth 17 = BitVec.ofNat 17 (code.toNat * 0x400 + payload.toNat % 0x400) := by
  rw [← BitVec.ofNat_toNat, toNat_encodeFrame]

/-- The response of ENCODE: `Rejected` when either test fails, with a flag for each (R110). -/
def encodeResponse (code : Code) (payload : BitVec 16) : Response :=
  { plain with
    kind := if code.toNat ≤ 9 ∧ payload.toNat ≤ 0x3FF then .ok else .rejected
    value := BitVec.ofNat 17 (code.toNat * 0x400 + payload.toNat % 0x400)
    rejCmd := decide (9 < code.toNat)
    rejData := decide (0x3FF < payload.toNat) }

theorem exec_encode (code : Code) (payload : BitVec 16) (s : State) :
    exec (.encode code payload) s = .next (responded (encodeResponse code payload) s) := by
  have hexec : exec (.encode code payload) s = execEncode code payload s := rfl
  rw [hexec, execEncode, encodeFrame_value]
  by_cases hok : code.toNat ≤ 9 ∧ payload.toNat ≤ 0x3FF
  · have hcode : codeUnknown code = false := decide_eq_false (not_lt.2 hok.1)
    have hpayload : payloadOverflows payload = false := decide_eq_false (not_lt.2 hok.2)
    rw [encodeResponse, if_pos hok, ← codeUnknown, ← payloadOverflows, hcode, hpayload]
    rfl
  · have hrej : (codeUnknown code || payloadOverflows payload) = true := by
      simp only [codeUnknown, payloadOverflows, Bool.or_eq_true, decide_eq_true_eq]
      omega
    rw [encodeResponse, if_neg hok, if_pos hrej]
    rfl

end Sys2Proof.Machine
end

section
/-! PROOFS of spec/40_codec.md: ENCODE and DECODE (R110 to R115). -/

namespace Sys2Proof.Machine

open Sys2Proof.Safety

/-- Settles O6: DECODE answers with the fields of the encoded frame, and they are what was encoded. -/
theorem decodeOfEncodedFrame : Obligations.DecodeOfEncodedFrame := by
  unfold Obligations.DecodeOfEncodedFrame
  intro cmd payload hfits
  refine ⟨frameCode_encodeFrame cmd payload, framePayload_encodeFrame cmd payload, fun s => ?_⟩
  have hcode : (encodeFrame cmd payload).toNat % 0x4000 / 0x400 = cmd.toNat := by
    rw [← toNat_frameCode, frameCode_encodeFrame]
  have hword : (encodeFrame cmd payload).toNat % 0x4000 = cmd.toNat * 0x400 + payload.toNat := by
    have := cmd.isLt
    rw [toNat_encodeFrame]
    omega
  rw [exec_decode, decodeValue_eq, hcode, hword, Nat.add_assoc]

/-- Settles O7: the fields of a word are its bits 13:0, and a ten-bit payload fits. -/
theorem encodeOfDecodedWord : Obligations.EncodeOfDecodedWord := by
  unfold Obligations.EncodeOfDecodedWord
  intro w
  exact ⟨encodeFrame_fields w, payload_fits _⟩

/-- Settles O8: the frame's payload field is the low ten bits, whatever the payload. -/
theorem rejectedFrameCarriesMaskedPayload : Obligations.RejectedFrameCarriesMaskedPayload := by
  unfold Obligations.RejectedFrameCarriesMaskedPayload
  intro cmd p
  rw [framePayload_encodeFrame, setWidth_payload_eq_mask]

/-- Settles O11: DECODE answers with the value of its packed fields. -/
theorem decodeAnswersFields : Obligations.DecodeAnswersFields := by
  unfold Obligations.DecodeAnswersFields
  intro word s
  rw [exec_decode, decodeValue_eq]

/-- Settles O9: the frame's value, and the two tests on which the kind and the flags depend. -/
theorem encodeAnswersPackedFrame : Obligations.EncodeAnswersPackedFrame := exec_encode

/-- Settles O10: the payload's test fails, so the command does not matter. -/
theorem encodeRejectsWidePayload : Obligations.EncodeRejectsWidePayload := by
  unfold Obligations.EncodeRejectsWidePayload
  intro cmd payload s hwide
  refine ⟨encodeResponse cmd payload, exec_encode cmd payload s, if_neg ?_, decide_eq_true hwide⟩
  exact fun hok => absurd hwide (not_lt.2 hok.2)

end Sys2Proof.Machine
end

section
/-! SUPPORT. A wire command as the executor's operation on its code and payload (R85), and the frame it goes out as. -/

namespace Sys2Proof.Machine

open Sys2Proof.Safety

/-! ### Wire commands as XWRITE and XREAD -/

theorem exec_instr_of_not_read {c : Command} (h : direction c ≠ .read) (p : Payload) (s : State) :
    exec (c.instr p) s = exec (.xwrite c.code (p.setWidth 16)) s := by
  cases c with
  | rdacRead | tpWiperRead | tpLastUsed | controlRead => exact absurd rfl h
  | nop | rdacWrite | tpWrite | rdacRefresh | controlWrite | shutdown => rfl

theorem exec_instr_of_read {c : Command} (h : direction c = .read) (p : Payload) (s : State) :
    exec (c.instr p) s = exec (.xread c.code (p.setWidth 16)) s := by
  cases c with
  | rdacRead | tpWiperRead | tpLastUsed | controlRead => rfl
  | nop | rdacWrite | tpWrite | rdacRefresh | controlWrite | shutdown => cases h

theorem exec_xwrite (code : Code) (payload : BitVec 16) (s : State) :
    exec (.xwrite code payload) s = .next (respondWrite (xwrite code payload s)) := rfl

theorem exec_xread (code : Code) (payload : BitVec 16) (s : State) :
    exec (.xread code payload) s = .next (respondRead (xread code payload s)) := rfl

/-! ### The frames -/

/-- A ten-bit payload stands in its frame as it is (R82). -/
theorem encodeFrame_payload (code : Code) (p : Payload) :
    encodeFrame code (p.setWidth 16) = (code.setWidth 16 <<< 10) ||| p.setWidth 16 := by
  rw [encodeFrame, mask_payload]

/-- R142: a command that carries a payload goes out with the host's. -/
theorem writeFrame_of_carries {c : Command} (h : direction c = .writePayload) (p : Payload) :
    encodeFrame c.code (writePayload c.code (p.setWidth 16)) = (c.code.setWidth 16 <<< 10) ||| p.setWidth 16 := by
  have hpayload : writePayload c.code (p.setWidth 16) = p.setWidth 16 := by
    simp only [writePayload, ofCode_code, h, if_true, mask_payload]
  rw [hpayload, encodeFrame_payload]

/-- R142: a command that carries none goes out with the payload 0. -/
theorem writePayload_of_not_carries {c : Command} (h : direction c ≠ .writePayload) (payload : BitVec 16) :
    writePayload c.code payload = 0 := by
  simp only [writePayload, ofCode_code, h, if_false]

/-- R148: every read command but TP_WIPER_READ is sent with the payload 0. -/
theorem readPayload_of_ne {code : Code} (h : code ≠ Command.tpWiperRead.code) (payload : BitVec 16) :
    readPayload code payload = 0 := if_neg h

/-- R148: a location within its six bits is sent as it is. -/
theorem readPayload_of_location {payload : BitVec 16} (h : locationOverflows payload = false) :
    readPayload Command.tpWiperRead.code payload = payload := by
  have hle : payload.toNat ≤ 0x3F := not_lt.1 (of_decide_eq_false h)
  have hmask := Nat.and_two_pow_sub_one_eq_mod payload.toNat 6
  apply BitVec.eq_of_toNat_eq
  rw [readPayload, if_pos rfl, BitVec.toNat_and]
  exact hmask.trans (Nat.mod_eq_of_lt (Nat.lt_succ_of_le hle))

/-! ### The admitted operations as the vocabulary of the statements has them -/

section
variable {code : Code} {payload : BitVec 16} {s : State}

/-- An admitted XWRITE other than RDAC_WRITE is one write phase (R140). -/
theorem respondWrite_xwrite_plain (hwritable : writable s.cfg code = true) (hfits : payloadOverflows payload = false)
    (hcode : code ≠ Command.rdacWrite.code) :
    respondWrite (xwrite code payload s) = wroteFrame (encodeFrame code (writePayload code payload)) s := by
  rw [xwrite_plain (by rw [hwritable, hfits]; rfl) hcode, respondWrite_afterWrite]

/-- RDAC_WRITE is its write phase, and the refresh when that was clean (R152). -/
theorem respondWrite_xwrite_wiper (p : Payload) (s : State) :
    respondWrite (xwrite Command.rdacWrite.code (p.setWidth 16) s) = wroteWiper p s := by
  rw [xwrite_wiper, wroteWiper]
  split <;> rfl

/-- An admitted XREAD is one read transaction (R148). -/
theorem respondRead_xread (hreadable : readable code = true) (hfits : readDataRejected code payload = false) :
    respondRead (xread code payload s) = readFrame (encodeFrame code (readPayload code payload)) s := by
  rw [xread_admitted (by rw [hreadable, hfits]; rfl), readFrame]
  split <;> rfl

end

theorem location_fits {p : Payload} (h : p.toNat ≤ 0x3F) : locationOverflows (p.setWidth 16) = false := by
  simp [locationOverflows]
  omega

/-- A read command but TP_WIPER_READ is rejected for no ten-bit payload (R149). -/
theorem readDataRejected_of_ne {code : Code} (h : code ≠ Command.tpWiperRead.code) (p : Payload) :
    readDataRejected code (p.setWidth 16) = false := by
  simp [readDataRejected, payload_fits, h]

theorem readDataRejected_of_location {p : Payload} (h : p.toNat ≤ 0x3F) (code : Code) :
    readDataRejected code (p.setWidth 16) = false := by
  simp [readDataRejected, payload_fits, location_fits h]

/-- A command-only wire command completes with the write phase of its frame. -/
theorem exec_instr_commandOnly {c : Command} (h : direction c = .writeCmdOnly)
    (hcode : c.code ≠ Command.rdacWrite.code) (p : Payload) (s : State) :
    exec (c.instr p) s = .next (wroteFrame (encodeFrame c.code 0) s) := by
  have hwritable : writable s.cfg c.code = true := by simp [writable, ofCode_code, h]
  rw [exec_instr_of_not_read (by simp [h]), exec_xwrite, respondWrite_xwrite_plain hwritable (payload_fits p) hcode,
    writePayload_of_not_carries (by simp [h])]

/-- A wire command that carries a payload, other than RDAC_WRITE, completes with the write phase of its frame. -/
theorem exec_instr_carrying {c : Command} (h : direction c = .writePayload)
    (hcode : c.code ≠ Command.rdacWrite.code) (p : Payload) (s : State) :
    exec (c.instr p) s = .next (wroteFrame ((c.code.setWidth 16 <<< 10) ||| p.setWidth 16) s) := by
  have hwritable : writable s.cfg c.code = true := by simp [writable, ofCode_code, h]
  rw [exec_instr_of_not_read (by simp [h]), exec_xwrite, respondWrite_xwrite_plain hwritable (payload_fits p) hcode,
    writeFrame_of_carries h]

/-- A wire command that reads, other than TP_WIPER_READ, completes with the transaction of its frame. -/
theorem exec_instr_read {c : Command} (hdir : direction c = .read) (hcode : c.code ≠ Command.tpWiperRead.code)
    (p : Payload) (s : State) : exec (c.instr p) s = .next (readFrame (encodeFrame c.code 0) s) := by
  have hreadable : readable c.code = true := by simp [readable, ofCode_code, hdir]
  rw [exec_instr_of_read hdir, exec_xread, respondRead_xread hreadable (readDataRejected_of_ne hcode p),
    readPayload_of_ne hcode]

end Sys2Proof.Machine
end

section
/-! PROOFS of spec/41_commands.md: the ten wire commands as executor operations (R120 to R129). -/

namespace Sys2Proof.Machine

open Sys2Proof.Safety

/-- Settles O32: the two lists are the commands that do not read and those that do. -/
theorem wireCommandsAreExecutorOperations : Obligations.WireCommandsAreExecutorOperations := by
  unfold Obligations.WireCommandsAreExecutorOperations
  intro p s
  constructor
  · intro c hc
    have hdir : ∀ c ∈ [Command.nop, .rdacWrite, .tpWrite, .rdacRefresh, .controlWrite, .shutdown],
        direction c ≠ .read := by decide
    exact exec_instr_of_not_read (hdir c hc) p s
  · intro c hc
    have hdir : ∀ c ∈ [Command.rdacRead, .tpWiperRead, .tpLastUsed, .controlRead], direction c = .read := by decide
    exact exec_instr_of_read (hdir c hc) p s

/-- Settles O27: TP_WRITE and RDAC_REFRESH go out with the payload 0, the other two with the host's. -/
theorem wireWritesComplete : Obligations.WireWritesComplete := by
  unfold Obligations.WireWritesComplete
  intro p s
  refine ⟨?_, ?_, ?_, ?_⟩
  · exact exec_instr_commandOnly (c := .tpWrite) rfl (by decide) p s
  · exact exec_instr_commandOnly (c := .rdacRefresh) rfl (by decide) p s
  · exact exec_instr_carrying (c := .controlWrite) rfl (by decide) p s
  · exact exec_instr_carrying (c := .shutdown) rfl (by decide) p s

/-- Settles O28: a ten-bit payload is never rejected, and RDAC_WRITE sends it as it is. -/
theorem wiperWriteCompletes : Obligations.WiperWriteCompletes := by
  unfold Obligations.WiperWriteCompletes
  intro p s
  have hexec : exec (.rdacWrite p) s =
      .next (respondWrite (xwrite Command.rdacWrite.code (p.setWidth 16) s)) := rfl
  rw [hexec, respondWrite_xwrite_wiper]

/-- Settles O29: a location of six bits is admitted and sent as it is; the other reads send the payload 0. -/
theorem wireReadsComplete : Obligations.WireReadsComplete := by
  unfold Obligations.WireReadsComplete
  intro p s
  refine ⟨?_, ?_, ?_, ?_⟩
  · exact exec_instr_read (c := .rdacRead) rfl (by decide) p s
  · exact exec_instr_read (c := .tpLastUsed) rfl (by decide) p s
  · exact exec_instr_read (c := .controlRead) rfl (by decide) p s
  · intro hlocation
    have hexec : exec (.tpWiperRead p) s =
        .next (respondRead (xread Command.tpWiperRead.code (p.setWidth 16) s)) := rfl
    rw [hexec, respondRead_xread rfl (readDataRejected_of_location hlocation _),
      readPayload_of_location (location_fits hlocation), encodeFrame_payload]
    rfl

end Sys2Proof.Machine
end

section
/-! SUPPORT. The settings of the value mapper as the vocabulary of the statements has them (R170, R174). -/

namespace Sys2Proof.Machine

open Sys2Proof.Safety

/-! ### `Clamp` -/

theorem clamp_of_nonpos (cfg : Config) {v : Int} (h : v ≤ 0) : clamp cfg v = 0 := if_pos h

theorem clamp_of_max_le (cfg : Config) {v : Int} (h : cfg.maxValue ≤ v) :
    clamp cfg v = BitVec.ofNat 10 cfg.maxValue := by
  obtain ⟨n, rfl⟩ := Int.eq_ofNat_of_zero_le (le_trans (Int.natCast_nonneg _) h)
  rw [clamp_natCast, capped, min_eq_right (Int.ofNat_le.1 h)]

theorem clamp_eq_bounded (cfg : Config) (v : Int) : clamp cfg v = bounded cfg v := by
  obtain hneg | hpos := le_total v 0
  · rw [clamp_of_nonpos cfg hneg, bounded, max_eq_left (min_le_of_left_le hneg)]
    rfl
  · obtain ⟨n, rfl⟩ := Int.eq_ofNat_of_zero_le hpos
    rw [clamp_natCast, capped, bounded, ← Nat.cast_min, max_eq_right (Int.natCast_nonneg _), BitVec.ofInt_natCast]

theorem clamp_succ (cfg : Config) (n : Nat) : clamp cfg (n + 1) = capped cfg (n + 1) := clamp_natCast cfg (n + 1)

/-- R177: one below 0 is 0. -/
theorem clamp_pred (cfg : Config) (n : Nat) : clamp cfg (n + -1) = capped cfg (n - 1) := by
  cases n with
  | zero =>
    rw [clamp_of_nonpos cfg (by decide), capped, Nat.zero_sub, Nat.zero_min]
    rfl
  | succ n => rw [Nat.add_sub_cancel, ← clamp_natCast, Nat.cast_succ, Int.add_neg_cancel_right]

/-! ### `FromRes` -/

theorem rfsOhms_pos (cfg : Config) : 0 < cfg.rfsOhms := by
  unfold Config.rfsOhms FullScale.ohms
  split <;> decide

theorem roundHaz_natCast (num den : Nat) : roundHaz num den = ((2 * num + den) / (2 * den) : Nat) := by
  rw [roundHaz, if_pos (Int.natCast_nonneg num)]
  push_cast
  rfl

theorem roundHaz_nonpos {num : Int} (h : num ≤ 0) {den : Nat} (hden : 0 < den) : roundHaz num den ≤ 0 := by
  unfold roundHaz
  split
  next hpos =>
    obtain rfl : num = 0 := le_antisymm h hpos
    exact (Int.ediv_eq_zero_of_lt (by omega) (by omega)).le
  next => exact neg_nonpos.2 (Int.ediv_nonneg (by omega) (by omega))

/-- R174's two early exits agree with the clamped quotient. -/
theorem fromRes_eq_settingOf (cfg : Config) (target : Int) : fromRes cfg target = settingOf cfg target := by
  have hscale := rfsOhms_pos cfg
  unfold fromRes settingOf
  split
  next hneg => exact clamp_of_nonpos cfg (roundHaz_nonpos (by omega) hscale)
  next hpos =>
    obtain ⟨n, rfl⟩ := Int.eq_ofNat_of_zero_le (not_le.1 hpos).le
    have hquot : roundHaz (n * 1024) cfg.rfsOhms =
        ((2048 * n + cfg.rfsOhms) / (2 * cfg.rfsOhms) : Nat) := by
      have hscaled : 2 * (n * 1024) = 2048 * n := by omega
      rw [← hscaled]
      exact_mod_cast roundHaz_natCast (n * 1024) cfg.rfsOhms
    rw [hquot]
    split
    next hfull =>
      have hmax := maxValue_le cfg
      have htop : 1024 ≤ (2048 * n + cfg.rfsOhms) / (2 * cfg.rfsOhms) := by
        rw [Nat.le_div_iff_mul_le (by omega)]
        omega
      exact clamp_of_max_le cfg (by omega)
    next => exact clamp_natCast cfg _

end Sys2Proof.Machine
end

section
/-! SUPPORT. The frames of the calls that lead from one state to another (R130), said once for a write phase, a read
transaction, XWRITE and XREAD, and then for every instruction. -/

namespace Sys2Proof.Machine

open Sys2Proof.Safety

/-! ### Frames of a list of calls -/

theorem framesSent_writeEvents (cfg : Config) (f : FrameWord) (w : WriteAnswers) (rest : List Event) :
    framesSent (writeEvents cfg f w ++ rest) = f :: framesSent rest :=
  congrArg (· :: framesSent rest) (bytes_of_frame f)

theorem framesSent_readEvents (cfg : Config) (r : ReadAnswers) (rest : List Event) :
    framesSent (readEvents cfg r ++ rest) = framesSent rest := by
  cases r <;> rfl

/-- The calls made between `s` and `t` carry the frames `fs`. The calls are whole transactions: what comes after them
carries the frames it carries by itself. -/
def Sends (s t : State) (fs : List FrameWord) : Prop :=
  ∃ calls, t.trace = s.trace ++ calls ∧ ∀ rest, framesSent (calls ++ rest) = fs ++ framesSent rest

/-- The calls made between `s` and `t` carry the first of the frames `fs`, or all of them. -/
def SendsFirst (s t : State) (fs : List FrameWord) : Prop := ∃ sent, sent <+: fs ∧ Sends s t sent

section
variable {s t u : State} {fs gs : List FrameWord}

theorem Sends.of_trace_eq (h : t.trace = s.trace) : Sends s t [] :=
  ⟨[], h.trans (List.append_nil _).symm, fun _ => rfl⟩

theorem Sends.trans (h : Sends s t fs) (h' : Sends t u gs) : Sends s u (fs ++ gs) := by
  obtain ⟨calls, htrace, hframes⟩ := h
  obtain ⟨calls', htrace', hframes'⟩ := h'
  refine ⟨calls ++ calls', ?_, fun rest => ?_⟩
  · rw [htrace', htrace, List.append_assoc]
  · rw [List.append_assoc, hframes, hframes', List.append_assoc]

theorem Sends.first (h : Sends s t fs) : SendsFirst s t fs := ⟨fs, List.prefix_rfl, h⟩

theorem SendsFirst.of_trace_eq (h : t.trace = s.trace) : SendsFirst s t fs := ⟨[], List.nil_prefix, .of_trace_eq h⟩

/-- All the frames of a first part, then the first frames of a second. -/
theorem Sends.trans_first (h : Sends s t fs) (h' : SendsFirst t u gs) : SendsFirst s u (fs ++ gs) := by
  obtain ⟨sent, hprefix, hsends⟩ := h'
  exact ⟨fs ++ sent, (List.prefix_append_right_inj fs).2 hprefix, h.trans hsends⟩

/-- What makes no call after the last transaction changes nothing about the frames. -/
theorem SendsFirst.quiet (h : SendsFirst s t fs) (hquiet : u.trace = t.trace) : SendsFirst s u fs := by
  obtain ⟨sent, hprefix, calls, htrace, hframes⟩ := h
  exact ⟨sent, hprefix, calls, hquiet.trans htrace, hframes⟩

theorem SendsFirst.framesSent_prefix (h : SendsFirst s t fs) :
    framesSent (t.trace.drop s.trace.length) <+: fs := by
  obtain ⟨sent, hprefix, calls, htrace, hframes⟩ := h
  have hsent : framesSent calls = sent := by simpa [framesSent] using hframes []
  rw [htrace, List.drop_left, hsent]
  exact hprefix

end

/-! ### Frames of the shared operations -/

theorem sends_afterWrite (f : FrameWord) (s : State) : Sends s (afterWrite f s) [f] :=
  ⟨_, rfl, framesSent_writeEvents _ f _⟩

theorem sends_afterRead (f : FrameWord) (s : State) : Sends s (afterRead f s) [f] := by
  refine ⟨_, rfl, fun rest => ?_⟩
  rw [List.append_assoc, framesSent_writeEvents, framesSent_readEvents]
  rfl

theorem sends_refreshed (p : Payload) (s : State) : Sends s (refreshed p s) [0x0800] := by
  have hread : Sends s (afterRead 0x0800 (withCache (capped s.cfg p.toNat) s)) [0x0800] := sends_afterRead 0x0800 _
  unfold refreshed
  simp only
  split <;> exact hread

/-- RDAC_WRITE sends its frame, and that of the follow-up read when the write was clean (R152). -/
theorem xwrite_wiper_sends (p : Payload) (s : State) :
    SendsFirst s (xwrite Command.rdacWrite.code (p.setWidth 16) s).2 (wiperFrames (p.setWidth 16)) := by
  have hwrite := sends_afterWrite (0x0400 ||| p.setWidth 16) s
  rw [xwrite_wiper]
  split
  · exact (hwrite.trans (sends_refreshed p _)).first
  · exact ⟨_, List.prefix_append _ _, hwrite⟩

theorem command_code_injective {c d : Command} (h : c.code = d.code) : c = d :=
  Option.some.inj (by rw [← ofCode_code c, h, ofCode_code])

/-- R130 lists for an XWRITE other than RDAC_WRITE the one frame that it sends when admitted. -/
theorem listedFrames_xwrite {c : Command} (hdir : direction c ≠ .read) (hcode : c ≠ .rdacWrite) (p : Payload)
    (s : State) : listedFrames s (.xwrite c.code (p.setWidth 16)) =
      [encodeFrame c.code (writePayload c.code (p.setWidth 16))] := by
  cases c with
  | rdacRead | tpWiperRead | tpLastUsed | controlRead => exact absurd rfl hdir
  | rdacWrite => exact absurd rfl hcode
  | controlWrite | shutdown =>
    rw [writeFrame_of_carries rfl]
    rfl
  | nop | tpWrite | rdacRefresh =>
    rw [writePayload_of_not_carries (by decide)]
    rfl

theorem xwrite_sends (code : Code) (payload : BitVec 16) (s : State) :
    SendsFirst s (xwrite code payload s).2 (listedFrames s (.xwrite code payload)) := by
  by_cases hrej : (!writable s.cfg code || payloadOverflows payload) = true
  · rw [xwrite_rejected hrej]
    exact .of_trace_eq rfl
  · obtain ⟨hwritable, hfits⟩ := admitted_of_not_rejected hrej
    obtain ⟨c, rfl, hdir, -⟩ := writable_command hwritable
    obtain ⟨p, rfl⟩ := payload_of_fits hfits
    by_cases hc : c = .rdacWrite
    · subst hc
      exact xwrite_wiper_sends p s
    · have hcode : c.code ≠ Command.rdacWrite.code := fun h => hc (command_code_injective h)
      rw [xwrite_plain (Bool.eq_false_of_not_eq_true hrej) hcode, listedFrames_xwrite hdir hc]
      exact (sends_afterWrite _ s).first

theorem listedFrames_xread {c : Command} {payload : BitVec 16} (hdir : direction c = .read)
    (hfits : readDataRejected c.code payload = false) (s : State) :
    listedFrames s (.xread c.code payload) = [encodeFrame c.code (readPayload c.code payload)] := by
  obtain ⟨hpayload, hlocation⟩ := Bool.or_eq_false_iff.1 hfits
  cases c with
  | tpWiperRead =>
    obtain ⟨p, rfl⟩ := payload_of_fits hpayload
    rw [readPayload_of_location hlocation, encodeFrame_payload]
    rfl
  | rdacRead | tpLastUsed | controlRead =>
    rw [readPayload_of_ne (by decide)]
    rfl
  | nop | rdacWrite | tpWrite | rdacRefresh | controlWrite | shutdown => cases hdir

theorem xread_sends (code : Code) (payload : BitVec 16) (s : State) :
    SendsFirst s (xread code payload s).2 (listedFrames s (.xread code payload)) := by
  by_cases hrej : (!readable code || readDataRejected code payload) = true
  · rw [xread_rejected hrej]
    exact .of_trace_eq rfl
  · obtain ⟨hreadable, hfits⟩ := admitted_of_not_rejected hrej
    obtain ⟨c, rfl, hdir⟩ := readable_command hreadable
    rw [xread_admitted (Bool.eq_false_of_not_eq_true hrej), listedFrames_xread hdir hfits]
    exact (sends_afterRead _ s).first

theorem respondRead_trace (r : ReadResult × State) : (respondRead r).trace = r.2.trace := by
  unfold respondRead
  split <;> rfl

theorem respondWrite_sends (code : Code) (payload : BitVec 16) (s : State) :
    SendsFirst s (respondWrite (xwrite code payload s)) (listedFrames s (.xwrite code payload)) :=
  (xwrite_sends code payload s).quiet rfl

theorem respondRead_sends (code : Code) (payload : BitVec 16) (s : State) :
    SendsFirst s (respondRead (xread code payload s)) (listedFrames s (.xread code payload)) :=
  (xread_sends code payload s).quiet (respondRead_trace _)

/-! ### Frames of every instruction -/

theorem stepSetting_sends (delta : Int) (s : State) :
    SendsFirst s (stepSetting delta s) (wiperFrames ((clamp s.cfg (s.setting.toNat + delta)).setWidth 16)) := by
  unfold stepSetting
  split
  · exact .of_trace_eq rfl
  · exact respondWrite_sends Command.rdacWrite.code _ s

theorem verifyFrame_eq (control : BitVec 8) : verifyFrame control = 0x1C00 ||| (control &&& 0x7).setWidth 16 := by
  have hpayload : (controlBits control).setWidth 16 =
      (((controlBits control).setWidth 10).setWidth 16 : BitVec 16) := by
    apply BitVec.eq_of_toNat_eq
    simp only [BitVec.toNat_setWidth]
    omega
  rw [verifyFrame, hpayload, encodeFrame_payload, ← hpayload]
  rfl

theorem verifyEnd_sends (control : BitVec 8) (s : State) :
    SendsFirst s (verifyEnd control s) (listedFrames s (.verify control)) := by
  have hbus : Sends s (afterRead verifyReadFrame (afterWrite (verifyFrame control) s))
      [verifyFrame control, verifyReadFrame] := (sends_afterWrite _ s).trans (sends_afterRead _ _)
  rw [listedFrames, ← verifyFrame_eq]
  exact hbus.first.quiet rfl

theorem beginUnlock_sends (s : State) : Sends s (beginUnlock s).2 [0x1C02] := by
  have hadm : (!writable (setSetting s.cfg.maxValue s).cfg Command.controlWrite.code ||
      payloadOverflows wiperWriteEnable) = false := rfl
  rw [beginUnlock, xwrite_plain hadm (by decide)]
  exact sends_afterWrite 0x1C02 _

theorem beginEnd_sends (s : State) :
    SendsFirst s (beginEnd (beginUnlock s).1 (beginWrite s)) (listedFrames s .beginOp) :=
  ((beginUnlock_sends s).trans_first (xwrite_sends Command.rdacWrite.code _ _)).quiet rfl

theorem exec_sends (i : Instr) (s : State) : ∃ t, exec i s = .next t ∧ SendsFirst s t (listedFrames s i) := by
  cases i with
  | nop | rdacWrite | tpWrite | rdacRefresh | controlWrite | shutdown | xwrite | shutdn | enwiper =>
    exact ⟨_, rfl, respondWrite_sends _ _ s⟩
  | rdacRead | tpWiperRead | tpLastUsed | controlRead | xread => exact ⟨_, rfl, respondRead_sends _ _ s⟩
  | encode | decode | clamp | tores | fromres => exact ⟨_, rfl, .of_trace_eq rfl⟩
  | getset | getres =>
    refine ⟨_, rfl, .of_trace_eq ?_⟩
    split <;> rfl
  | inc =>
    refine ⟨_, rfl, ?_⟩
    rw [listedFrames, ← clamp_succ]
    exact stepSetting_sends 1 s
  | dec =>
    refine ⟨_, rfl, ?_⟩
    rw [listedFrames, ← clamp_pred]
    exact stepSetting_sends (-1) s
  | setset v =>
    refine ⟨_, rfl, ?_⟩
    rw [listedFrames, ← clamp_eq_bounded]
    exact respondWrite_sends Command.rdacWrite.code _ s
  | setres t =>
    refine ⟨_, rfl, ?_⟩
    rw [listedFrames, ← fromRes_eq_settingOf]
    exact respondWrite_sends Command.rdacWrite.code _ s
  | verify control => exact ⟨_, execVerify_eq control s, verifyEnd_sends control s⟩
  | beginOp => exact ⟨_, execBegin_eq s, beginEnd_sends s⟩

end Sys2Proof.Machine
end

section
/-! PROOFS of spec/41_commands.md: the frames an operation sends (R130). -/

namespace Sys2Proof.Machine

open Sys2Proof.Safety

/-- Settles O53: the calls of an instruction carry the listed frames from the first on, as far as it gets. -/
theorem framesSentAreListed : Obligations.FramesSentAreListed := by
  unfold Obligations.FramesSentAreListed
  intro i s t hexec
  obtain ⟨t', hexec', hsends⟩ := exec_sends i s
  obtain rfl : t' = t := Host.Outcome.next.inj (hexec'.symm.trans hexec)
  exact hsends.framesSent_prefix

end Sys2Proof.Machine
end

section
/-! SUPPORT. Which command codes the executor admits (R141, R149), and a payload that fits as the ten-bit payload of a
wire command. -/

namespace Sys2Proof.Machine

open Sys2Proof.Safety

/-- A code that names no command is no command's code. -/
theorem beq_code_of_ofCode_none {code : Code} (h : Command.ofCode code = none) (c : Command) :
    (code == c.code) = false := by
  refine beq_eq_false_iff_ne.2 fun heq => ?_
  rw [heq, ofCode_code] at h
  cases h

/-- R141: the writable commands by name. -/
theorem writable_eq (cfg : Config) (code : Code) :
    writable cfg code =
      (code == Command.rdacWrite.code || code == Command.tpWrite.code || code == Command.rdacRefresh.code ||
        code == Command.controlWrite.code || code == Command.shutdown.code ||
        (code == Command.nop.code && cfg.nopWritable)) := by
  cases hcode : Command.ofCode code with
  | none => simp [writable, hcode, beq_code_of_ofCode_none hcode]
  | some c =>
    obtain rfl := ofCode_eq_some hcode
    cases c <;> rfl

/-- R149: the readable commands by name. -/
theorem readable_eq (code : Code) :
    readable code =
      (code == Command.rdacRead.code || code == Command.tpWiperRead.code || code == Command.tpLastUsed.code ||
        code == Command.controlRead.code) := by
  cases hcode : Command.ofCode code with
  | none => simp [readable, hcode, beq_code_of_ofCode_none hcode]
  | some c =>
    obtain rfl := ofCode_eq_some hcode
    cases c <;> rfl

theorem setWidth_payload (p : Payload) : (p.setWidth 16).setWidth 10 = p := by
  rw [BitVec.setWidth_setWidth_of_le _ (by decide), BitVec.setWidth_eq]

/-- A payload of at most 0x3FF is some wire command's ten-bit payload. -/
theorem payload_of_le {payload : BitVec 16} (h : payload.toNat ≤ 0x3FF) : ∃ p : Payload, payload = p.setWidth 16 :=
  payload_of_fits (decide_eq_false (not_lt.2 h))

/-- A rejected XWRITE answers with the flags of its two tests, and does nothing else (R141). -/
theorem exec_xwrite_rejected {code : Code} {payload : BitVec 16} {s : State}
    (h : (!writable s.cfg code || payloadOverflows payload) = true) :
    exec (.xwrite code payload) s =
      .next (turnedAway (!writable s.cfg code) (payloadOverflows payload) false s) := by
  rw [exec_xwrite, xwrite_rejected h, respondWrite_rejected]

/-- A rejected XREAD answers with the flags of its two tests, and draws a free value (R149; log entry 4). -/
theorem exec_xread_rejected {code : Code} {payload : BitVec 16} {s : State}
    (h : (!readable code || readDataRejected code payload) = true) :
    exec (.xread code payload) s =
      .next { responded { plain with kind := .rejected, value := (Config.freeDatum s.freeValues).setWidth 17,
                                     rejCmd := !readable code, rejData := readDataRejected code payload } s with
              freeValues := s.freeValues + 1 } := by
  rw [exec_xread, xread_rejected h, respondRead_rejected]

end Sys2Proof.Machine
end

section
/-! PROOFS of spec/42_executor.md: which XWRITE and XREAD complete, and which are rejected (R141, R142, R148, R149,
R152, R155). -/

namespace Sys2Proof.Machine

open Sys2Proof.Safety

/-- Settles O21: a payload that fits makes XWRITE the wire command of the same code, whose completion is proved. -/
theorem xwriteCompletes : Obligations.XwriteCompletes := by
  unfold Obligations.XwriteCompletes
  intro payload s hfits
  obtain ⟨p, rfl⟩ := payload_of_le hfits
  have hwire {c : Command} (hdir : direction c ≠ .read) := exec_instr_of_not_read hdir p s
  obtain ⟨htpWrite, hrefresh, hcontrol, hshutdown⟩ := wireWritesComplete p s
  refine ⟨?_, ?_, ?_, ?_, ?_, fun hnop => ?_⟩
  · rw [setWidth_payload]
    exact (hwire (c := .rdacWrite) (by decide)).symm.trans (wiperWriteCompletes p s)
  · exact (hwire (c := .tpWrite) (by decide)).symm.trans htpWrite
  · exact (hwire (c := .rdacRefresh) (by decide)).symm.trans hrefresh
  · exact (hwire (c := .controlWrite) (by decide)).symm.trans hcontrol
  · exact (hwire (c := .shutdown) (by decide)).symm.trans hshutdown
  · exact (hwire (c := .nop) (by decide)).symm.trans ((nopFollowsConfiguration p s).1 hnop)

/-- Settles O22: the listed codes are the writable ones, so the flags are those of the two tests of admission. -/
theorem xwriteRejects : Obligations.XwriteRejects := by
  unfold Obligations.XwriteRejects
  intro code payload s rejCmd rejData hrej
  have hcmd : rejCmd = !writable s.cfg code := congrArg (!·) (writable_eq s.cfg code).symm
  have hdata : rejData = payloadOverflows payload := rfl
  rw [hcmd, hdata] at hrej ⊢
  exact exec_xwrite_rejected hrej

/-- Settles O23: a payload that fits makes XREAD the wire command of the same code, whose completion is proved. -/
theorem xreadCompletes : Obligations.XreadCompletes := by
  unfold Obligations.XreadCompletes
  intro payload s
  constructor
  · intro hfits
    obtain ⟨p, rfl⟩ := payload_of_le hfits
    obtain ⟨hrdac, hlastUsed, hcontrol, -⟩ := wireReadsComplete p s
    refine ⟨?_, ?_, ?_⟩
    · exact (exec_instr_of_read (c := .rdacRead) rfl p s).symm.trans hrdac
    · exact (exec_instr_of_read (c := .tpLastUsed) rfl p s).symm.trans hlastUsed
    · exact (exec_instr_of_read (c := .controlRead) rfl p s).symm.trans hcontrol
  · intro hlocation
    obtain ⟨p, rfl⟩ := payload_of_le (hlocation.trans (by decide))
    rw [BitVec.toNat_setWidth_of_le (by decide)] at hlocation
    obtain ⟨-, -, -, hwiper⟩ := wireReadsComplete p s
    exact (exec_instr_of_read (c := .tpWiperRead) rfl p s).symm.trans (hwiper hlocation)

/-- Settles O24: the listed codes are the readable ones, so the flags are those of the two tests of admission, and the
signed view of a rejection is -100 whatever its value. -/
theorem xreadRejects : Obligations.XreadRejects := by
  unfold Obligations.XreadRejects
  intro code payload s rejCmd rejData hrej
  have hcmd : rejCmd = !readable code := congrArg (!·) (readable_eq code).symm
  have hdata : rejData = readDataRejected code payload := rfl
  rw [hcmd, hdata] at hrej ⊢
  exact ⟨_, exec_xread_rejected hrej, rfl, Response.legacy_of_rejected rfl⟩

end Sys2Proof.Machine
end

section
/-! SUPPORT. The value mapper in numbers: rounding as the floor and the ceiling of a rational (R173), the value of a
clamped setting (R170), and how far the resistance of a setting and the setting of a resistance are from the exact
quotients (R171, R174). -/

namespace Sys2Proof.Machine

open Sys2Proof.Safety

/-! ### Rounding -/

/-- Adding a half and taking the floor, on integers. -/
theorem floor_div_add_half (num : Int) {den : Nat} (hden : 0 < den) :
    ⌊(num : ℚ) / den + 1 / 2⌋ = (2 * num + den) / (2 * den) := by
  have hne : (den : ℚ) ≠ 0 := by exact_mod_cast hden.ne'
  have hsum : (num : ℚ) / den + 1 / 2 = ((2 * num + den : Int) : ℚ) / ((2 * den : Nat) : ℚ) := by
    push_cast
    field_simp
  rw [hsum, Rat.floor_intCast_div_natCast]
  push_cast
  rfl

theorem roundHaz_of_nonneg {num : Int} (h : 0 ≤ num) {den : Nat} (hden : 0 < den) :
    roundHaz num den = ⌊(num : ℚ) / den + 1 / 2⌋ := by
  rw [roundHaz, if_pos h, floor_div_add_half num hden]

theorem roundHaz_of_neg {num : Int} (h : num < 0) {den : Nat} (hden : 0 < den) :
    roundHaz num den = -⌊-((num : ℚ) / den) + 1 / 2⌋ := by
  rw [roundHaz, if_neg (not_le.2 h), ← floor_div_add_half (-num) hden, Int.cast_neg, neg_div]

/-- Halves up and halves down differ only at a tie: off the integers, the ceiling is one above the floor. -/
theorem roundHalfDown_eq_floor {q : ℚ} (h : q - 1 / 2 ∉ Set.range ((↑) : Int → ℚ)) :
    roundHalfDown q = ⌊q + 1 / 2⌋ := by
  have hshift : q + 1 / 2 = q - 1 / 2 + 1 := by ring
  rw [roundHalfDown, (Int.ceil_eq_floor_add_one_iff_notMem _).2 h, hshift, Int.floor_add_one]

/-- Of `num / den` a tie is an odd multiple of `den` equal to `2 * num`; without one the tie rule does not matter. -/
theorem roundHaz_eq_roundHalfDown {num den : Nat} (hden : 0 < den)
    (hnoTie : ∀ k : Int, 2 * (num : Int) ≠ (2 * k + 1) * den) :
    roundHaz num den = roundHalfDown ((num : ℚ) / den) := by
  have hoff : (num : ℚ) / den - 1 / 2 ∉ Set.range ((↑) : Int → ℚ) := by
    rintro ⟨k, hk⟩
    have hne : (den : ℚ) ≠ 0 := by exact_mod_cast hden.ne'
    field_simp at hk
    refine hnoTie k ?_
    have htie : 2 * (num : ℚ) = (2 * k + 1) * den := by linarith
    exact_mod_cast htie
  rw [roundHalfDown_eq_floor hoff, roundHaz_of_nonneg (Int.natCast_nonneg num) hden, Int.cast_natCast]

/-! ### `Clamp` -/

theorem toNat_capped (cfg : Config) (n : Nat) : (capped cfg n).toNat = min n cfg.maxValue := by
  have hmax := maxValue_le cfg
  rw [capped, BitVec.toNat_ofNat, Nat.mod_eq_of_lt (by omega)]

theorem capped_of_le {cfg : Config} {v : Setting} (h : v.toNat ≤ cfg.maxValue) : capped cfg v.toNat = v := by
  rw [capped, min_eq_left h, BitVec.ofNat_toNat, BitVec.setWidth_eq]

theorem toNat_clamp (cfg : Config) (v : Int) : (clamp cfg v).toNat = min v.toNat cfg.maxValue := by
  obtain hneg | hpos := le_total v 0
  · rw [clamp_of_nonpos cfg hneg, Int.toNat_of_nonpos hneg, Nat.zero_min]
    rfl
  · obtain ⟨n, rfl⟩ := Int.eq_ofNat_of_zero_le hpos
    rw [clamp_natCast, toNat_capped, Int.toNat_natCast]

/-! ### `ToRes` -/

theorem rfsOhms_cases (cfg : Config) : cfg.rfsOhms = 20000 ∨ cfg.rfsOhms = 50000 ∨ cfg.rfsOhms = 100000 := by
  unfold Config.rfsOhms
  cases cfg.fullScale
  case ohms20000 => exact .inl rfl
  case ohms50000 => exact .inr (.inl rfl)
  case ohms100000 => exact .inr (.inr rfl)

theorem rfsOhms_bounds (cfg : Config) : 20000 ≤ cfg.rfsOhms ∧ cfg.rfsOhms ≤ 100000 := by
  obtain h | h | h := rfsOhms_cases cfg <;> omega

theorem roundHaz_ohms (cfg : Config) (n : Nat) : roundHaz (n * cfg.rfsOhms) 1023 = ohmsOf cfg n := by
  have hquot := roundHaz_natCast (n * cfg.rfsOhms) 1023
  rw [← mul_assoc] at hquot
  exact_mod_cast hquot

theorem toRes_eq_ohmsOf (cfg : Config) (v : Setting) : toRes cfg v = BitVec.ofNat 17 (ohmsOf cfg v.toNat) := by
  rw [toRes, roundHaz_ohms, BitVec.ofInt_natCast]

theorem ohmsOf_zero (cfg : Config) : ohmsOf cfg 0 = 0 := by
  unfold ohmsOf
  omega

theorem ohmsOf_top (cfg : Config) : ohmsOf cfg 1023 = cfg.rfsOhms := by
  unfold ohmsOf
  omega

/-- A step of the setting is more than nineteen ohms wide, so rounding merges no two settings. -/
theorem ohmsOf_strictMono (cfg : Config) : StrictMono (ohmsOf cfg) := by
  obtain ⟨hlow, -⟩ := rfsOhms_bounds cfg
  refine strictMono_nat_of_lt_succ fun n => ?_
  have hstep : 2 * (n + 1) * cfg.rfsOhms = 2 * n * cfg.rfsOhms + 2 * cfg.rfsOhms := by ring
  unfold ohmsOf
  omega

theorem toNat_toRes (cfg : Config) (v : Setting) : (toRes cfg v).toNat = ohmsOf cfg v.toNat := by
  have htop : ohmsOf cfg v.toNat ≤ cfg.rfsOhms :=
    ohmsOf_top cfg ▸ (ohmsOf_strictMono cfg).monotone (Nat.le_of_lt_succ v.isLt)
  obtain ⟨-, hhigh⟩ := rfsOhms_bounds cfg
  rw [toRes_eq_ohmsOf, BitVec.toNat_ofNat, Nat.mod_eq_of_lt (by omega)]

/-- The resistance is within half an ohm of the exact one. -/
theorem ohmsOf_close (cfg : Config) (n : Nat) :
    2 * (n * cfg.rfsOhms) < 2046 * ohmsOf cfg n + 1023 ∧ 2046 * ohmsOf cfg n ≤ 2 * (n * cfg.rfsOhms) + 1023 := by
  unfold ohmsOf
  rw [mul_assoc]
  omega

/-- 1023 is odd, so twice a number is no odd multiple of it. -/
theorem toRes_no_tie (num : Nat) (k : Int) : 2 * (num : Int) ≠ (2 * k + 1) * (1023 : Nat) := by
  omega

/-! ### `FromRes` -/

/-- The setting of a resistance: the rounded quotient, the maximum where it is more. -/
theorem toNat_fromRes (cfg : Config) (x : Nat) :
    (fromRes cfg x).toNat = min ((2 * (x * 1024) + cfg.rfsOhms) / (2 * cfg.rfsOhms)) cfg.maxValue := by
  have hquot := roundHaz_natCast (x * 1024) cfg.rfsOhms
  push_cast only [Nat.cast_mul, Nat.cast_ofNat] at hquot
  rw [fromRes, hquot, toNat_clamp, Int.toNat_natCast]

/-- The setting is at most half above the exact quotient `1024 * x / RFS_OHMS`, and less than half below it unless it is
the maximum. -/
theorem fromRes_close (cfg : Config) (x : Nat) :
    2 * ((fromRes cfg x).toNat * cfg.rfsOhms) ≤ 2048 * x + cfg.rfsOhms ∧
    (2048 * x < 2 * ((fromRes cfg x).toNat * cfg.rfsOhms) + cfg.rfsOhms ∨ (fromRes cfg x).toNat = cfg.maxValue) := by
  have hscale := rfsOhms_pos cfg
  rw [toNat_fromRes]
  generalize hq : (2 * (x * 1024) + cfg.rfsOhms) / (2 * cfg.rfsOhms) = q
  have hle : q * (2 * cfg.rfsOhms) ≤ 2 * (x * 1024) + cfg.rfsOhms := hq ▸ Nat.div_mul_le_self _ _
  have hlt : 2 * (x * 1024) + cfg.rfsOhms < q * (2 * cfg.rfsOhms) + 2 * cfg.rfsOhms :=
    hq ▸ Nat.lt_div_mul_add (by omega)
  have hexact : q * (2 * cfg.rfsOhms) = 2 * (q * cfg.rfsOhms) := Nat.mul_left_comm _ _ _
  obtain hfits | hmax := le_total q cfg.maxValue
  · rw [min_eq_left hfits]
    omega
  · have hcut : cfg.maxValue * cfg.rfsOhms ≤ q * cfg.rfsOhms := Nat.mul_le_mul_right _ hmax
    rw [min_eq_right hmax]
    omega

/-- No full scale has the factor 64, which twice 1024 times any target has. -/
theorem fromRes_no_tie (cfg : Config) (t : Nat) (k : Int) :
    2 * ((t * 1024 : Nat) : Int) ≠ (2 * k + 1) * cfg.rfsOhms := by
  obtain h | h | h := rfsOhms_cases cfg <;> rw [h] <;> omega

end Sys2Proof.Machine
end

section
/-! PROOFS of spec/43_mapper.md: CLAMP, TORES, FROMRES, INC and DEC, and the laws of their arithmetic (R170 to R178). -/

namespace Sys2Proof.Machine

open Sys2Proof.Safety

/-! ### The operations -/

theorem exec_clamp (raw : BitVec 32) (s : State) :
    exec (.clamp raw) s = .next (answered ((clamp s.cfg raw.toInt).setWidth 17) s) := rfl

theorem exec_tores (raw : BitVec 10) (s : State) : exec (.tores raw) s = .next (answered (toRes s.cfg raw) s) := rfl

theorem exec_fromres (target : BitVec 32) (s : State) :
    exec (.fromres target) s = .next (answered ((fromRes s.cfg target.toInt).setWidth 17) s) := rfl

/-- Settles O12: the two comparisons of `Clamp` are the two bounds of one integer. -/
theorem clampAnswersBoundedValue : Obligations.ClampAnswersBoundedValue := by
  unfold Obligations.ClampAnswersBoundedValue
  intro raw s
  rw [exec_clamp, clamp_eq_bounded]

/-- Settles O13: the numerator is not negative, so rounding is one division of naturals. -/
theorem toresAnswersOhms : Obligations.ToresAnswersOhms := by
  unfold Obligations.ToresAnswersOhms
  intro raw s
  rw [exec_tores, toRes_eq_ohmsOf]

/-- Settles O14: clamping the quotient answers what the two early exits do. -/
theorem fromresAnswersSetting : Obligations.FromresAnswersSetting := by
  unfold Obligations.FromresAnswersSetting
  intro target s
  rw [exec_fromres, fromRes_eq_settingOf]

section
variable {s : State} (delta : Int)

theorem stepSetting_of_invalid (h : s.settingValid = false) :
    stepSetting delta s = turnedAway false false true s := by
  rw [stepSetting, if_pos (by rw [stateRejected, h]; rfl)]
  rfl

theorem stepSetting_of_valid (h : s.settingValid = true) :
    stepSetting delta s = wroteWiper (clamp s.cfg (s.setting.toNat + delta)) s := by
  rw [stepSetting, if_neg (by rw [stateRejected, h]; decide), respondWrite_xwrite_wiper]

end

/-- Settles O20: INC and DEC are the steps by 1 and -1, and the clamped sum is the neighbour or the bound. -/
theorem incDecWriteNeighbour : Obligations.IncDecWriteNeighbour := by
  unfold Obligations.IncDecWriteNeighbour
  intro s
  have hinc : exec .inc s = .next (stepSetting 1 s) := rfl
  have hdec : exec .dec s = .next (stepSetting (-1) s) := rfl
  rw [hinc, hdec]
  constructor
  · intro hinvalid
    rw [stepSetting_of_invalid 1 hinvalid, stepSetting_of_invalid (-1) hinvalid]
    exact ⟨rfl, rfl⟩
  · intro hvalid
    rw [stepSetting_of_valid 1 hvalid, stepSetting_of_valid (-1) hvalid, clamp_succ, clamp_pred]
    exact ⟨rfl, rfl⟩

/-! ### The arithmetic -/

/-- Settles O15: a clamped value is its own cap, and the value of a clamp is a minimum. -/
theorem clampIdempotentMonotone : Obligations.ClampIdempotentMonotone := by
  unfold Obligations.ClampIdempotentMonotone
  intro cfg a b
  constructor
  · rw [clamp_natCast, capped_of_le (clamp_toNat_le cfg a)]
  · intro hab
    rw [toNat_clamp, toNat_clamp]
    exact min_le_min_right _ (Int.toNat_le_toNat hab)

/-- Settles O16: the integer form is strictly increasing and fits the 17 bits. -/
theorem toResStrictlyIncreasing : Obligations.ToResStrictlyIncreasing := by
  unfold Obligations.ToResStrictlyIncreasing
  intro cfg
  refine ⟨fun a b hab => ?_, ?_, ?_⟩
  · rw [BitVec.lt_def, toNat_toRes, toNat_toRes]
    exact ohmsOf_strictMono cfg hab
  · exact BitVec.eq_of_toNat_eq ((toNat_toRes cfg 0).trans (ohmsOf_zero cfg))
  · exact (toNat_toRes cfg 1023).trans (ohmsOf_top cfg)

/-- Settles O17: the integer division is the floor of the rational with the half added. -/
theorem roundHazRoundsQuotient : Obligations.RoundHazRoundsQuotient := by
  unfold Obligations.RoundHazRoundsQuotient
  intro num den hden
  exact ⟨fun h => roundHaz_of_nonneg h hden, fun h => roundHaz_of_neg h hden⟩

/-- Settles O18: neither the odd divisor 1023 nor a full scale, with the factor 1024, has a tie. -/
theorem mapperMeetsNoTie : Obligations.MapperMeetsNoTie := by
  unfold Obligations.MapperMeetsNoTie
  intro cfg
  constructor
  · intro raw
    have hround : roundHaz (raw.toNat * cfg.rfsOhms) 1023 = roundHalfDown (raw.toNat * cfg.rfsOhms / 1023) := by
      exact_mod_cast roundHaz_eq_roundHalfDown (by decide) (toRes_no_tie (raw.toNat * cfg.rfsOhms))
    exact ⟨hround, congrArg (BitVec.ofInt 17) hround⟩
  · intro t _
    have hround : roundHaz (t * 1024) cfg.rfsOhms = roundHalfDown (t * 1024 / cfg.rfsOhms) := by
      exact_mod_cast roundHaz_eq_roundHalfDown (rfsOhms_pos cfg) (fromRes_no_tie cfg t)
    exact ⟨hround, congrArg (clamp cfg) hround⟩

/-- Settles O19: the setting errs by at most half a step, the way back with 1023 in place of 1024 adds at most one step,
and the rounding to ohms half an ohm. A setting cut to the maximum answers full scale, which no target exceeds. -/
theorem roundTripWithinOneAndAHalfSteps : Obligations.RoundTripWithinOneAndAHalfSteps := by
  unfold Obligations.RoundTripWithinOneAndAHalfSteps
  intro cfg hres x hx
  have hmax : cfg.maxValue = 1023 := by rw [Config.maxValue_eq, hres]; rfl
  have hscale := rfsOhms_pos cfg
  have hle : (fromRes cfg x).toNat ≤ 1023 := hmax ▸ clamp_toNat_le cfg _
  obtain ⟨hhigh, hlow⟩ := fromRes_close cfg x
  rw [toNat_toRes]
  generalize (fromRes cfg x).toNat = v at hle hhigh hlow ⊢
  have htop : v * cfg.rfsOhms ≤ 1023 * cfg.rfsOhms := Nat.mul_le_mul_right _ hle
  have habove : 2 * (v * cfg.rfsOhms) < 2046 * x + 3 * cfg.rfsOhms := by linarith only [hx, hscale, htop, hhigh]
  have hbelow : 2046 * x < 2 * (v * cfg.rfsOhms) + 3 * cfg.rfsOhms := by
    obtain hnear | hcut := hlow
    · linarith only [hscale, hnear]
    · rw [hcut, hmax]
      linarith only [hx, hscale]
  obtain ⟨hohmsLow, hohmsHigh⟩ := ohmsOf_close cfg v
  rw [← abs_of_nonneg (by decide : (0 : Int) ≤ 2046), ← abs_mul, abs_lt]
  omega

end Sys2Proof.Machine
end

section
/-! SUPPORT. The stages of VERIFY (R190, R192 to R196): what each hands to the next, and the response by the stage it
is given in. -/

namespace Sys2Proof.Machine

open Sys2Proof.Safety

/-! ### The write and the read-back -/

theorem verifyWrite_count (control : BitVec 8) (s : State) : (verifyWrite control s).1 = writeCount s := by
  simp only [verifyWrite, writePhase_eq]

theorem verifyRead_result (s : State) : (verifyRead s).1 = txnResult s := by
  simp only [verifyRead, readTxn_eq]

theorem verifyReadFrame_eq : verifyReadFrame = 0x2000 := by decide

/-- R194: the eight low bits are compared, and only when the read came. -/
theorem txnResult_mismatch (s : State) (written : BitVec 8) :
    (txnResult s).mismatch written = (readCount s == 0 && (readDatum s).extractLsb' 0 8 != written) := by
  unfold txnResult
  split
  next h0 => rw [h0]; rfl
  next h0 => rw [beq_false_of_ne h0]; rfl

/-! ### The finish and the response -/

/-- The total of R190: the two counts and the mismatch unit. -/
def verifyTotal (nw : Nat) (r : TxnResult) (control : BitVec 8) : Nat :=
  nw + r.errors + (if r.mismatch (controlBits control) then 1 else 0)

section
variable {control : BitVec 8} {r : TxnResult} {s : State}

theorem verifyFinish_eq (nw : Nat) : verifyFinish nw r control s =
    (s.setAcc (BitVec.ofNat 4 (verifyTotal nw r control))).setVState
      (if verifyTotal nw r control = 0 then .done else .error) := rfl

theorem verifyFinish_error_iff_not_done (nw : Nat) :
    (verifyFinish nw r control s).vstate = .error ↔ (verifyFinish nw r control s).vstate ≠ .done := by
  rw [verifyFinish_eq, State.setVState_vstate]
  split <;> decide

/-- `Done` answers `Ok`. -/
theorem verifyResponse_of_done (h : s.vstate = .done) : verifyResponse r control s =
    { plain with rangeFlag := rangeFlag control, mismatch := r.mismatch (controlBits control) } := by
  simp only [verifyResponse, if_pos h]
  rfl

/-- Any other stage answers `Failed` with `st.acc`. -/
theorem verifyResponse_of_not_done (h : s.vstate ≠ .done) : verifyResponse r control s =
    { plain with kind := .failed, count := s.acc, rangeFlag := rangeFlag control,
                 mismatch := r.mismatch (controlBits control) } := by
  simp only [verifyResponse, if_neg h]
  rfl

/-- The response by the total, as the vocabulary of the statements has it. -/
theorem verifyResponse_verifyFinish (nw : Nat) : verifyResponse r control (verifyFinish nw r control s) =
    { plain with
      kind := if verifyTotal nw r control = 0 then .ok else .failed
      count := BitVec.ofNat 4 (verifyTotal nw r control)
      rangeFlag := rangeFlag control
      mismatch := r.mismatch (controlBits control) } := by
  rw [verifyFinish_eq]
  by_cases h0 : verifyTotal nw r control = 0
  · rw [verifyResponse_of_done (if_pos h0), if_pos h0, h0]
    rfl
  · rw [verifyResponse_of_not_done (by simp [h0])]
    simp only [if_neg h0]
    rfl

end

end Sys2Proof.Machine
end

section
/-! PROOFS of spec/44_verifier.md: VERIFY as one operation and as a walk through its stages (R190 to R196), and the
request port outside `Idle` (R196, R250, R256). -/

namespace Sys2Proof.Machine

open Sys2Proof.Safety

theorem verifyEnd_eq_verified (control : BitVec 8) (s : State) : verifyEnd control s = verified control s := by
  simp only [verifyEnd, verifyResponse_verifyFinish]
  simp only [verifyFinish_eq, verifyTotal, txnResult_errors, txnResult_mismatch, verifyFrame_eq, verifyReadFrame_eq]
  rfl

/-- Settles O33: one write phase and one read transaction, and the response by their total. -/
theorem verifyCompletes : Obligations.VerifyCompletes := by
  unfold Obligations.VerifyCompletes
  intro control s
  rw [← verifyEnd_eq_verified]
  exact execVerify_eq control s

/-- Settles O34: the total is at most 8, so `st.acc` is 0 exactly when the finish found nothing to count. -/
theorem verifierFollowsStateTable : Obligations.VerifierFollowsStateTable := by
  unfold Obligations.VerifierFollowsStateTable
  intro control s w r t
  have hle : verifyTotal w.1 r.1 control ≤ 8 := by
    rw [show w.1 = writeCount s from verifyWrite_count control s, show r.1 = txnResult w.2 from verifyRead_result w.2]
    exact verifyTotal_le control s w.2
  have hdone : t.vstate = .done ↔ t.acc = 0 := verifyFinish_done_iff hle r.2
  have herror : t.vstate = .error ↔ t.vstate ≠ .done := verifyFinish_error_iff_not_done w.1
  refine ⟨rfl, rfl, hdone, herror.trans (not_congr hdone), fun h => ?_, fun h => ?_, _, rfl, rfl, rfl⟩
  · rw [verifyResponse_of_done h]
    rfl
  · rw [verifyResponse_of_not_done (herror.1 h)]
    exact ⟨rfl, rfl⟩

theorem acceptRequest_eq_none_iff (s : State) :
    acceptRequest s = none ↔ s.requests = [] ∨ s.vstate ≠ .idle := by
  unfold acceptRequest
  split
  next hnone => simp [hnone]
  next hsome => simp [hsome]

/-- Settles O42: with nothing to accept a step leaves the state as it is. -/
theorem stepWaitsForRequest : Obligations.StepWaitsForRequest := by
  unfold Obligations.StepWaitsForRequest
  intro s hwait
  simp only [step, (acceptRequest_eq_none_iff s).2 hwait]

end Sys2Proof.Machine
end

section
/-! SUPPORT. The composite operations of the facade: as XWRITE of their setting or their payload, as answers from the
cache, and BEGIN as its two writes (R200 to R207). -/

namespace Sys2Proof.Machine

open Sys2Proof.Safety

/-! ### The composites that are one XWRITE -/

theorem exec_setset (v : BitVec 32) (s : State) :
    exec (.setset v) s = exec (.xwrite Command.rdacWrite.code ((clamp s.cfg v.toInt).setWidth 16)) s := rfl

theorem exec_setres (t : BitVec 32) (s : State) :
    exec (.setres t) s = exec (.xwrite Command.rdacWrite.code ((fromRes s.cfg t.toInt).setWidth 16)) s := rfl

theorem exec_shutdn (p : BitVec 16) (s : State) :
    exec (.shutdn p) s = exec (.xwrite Command.shutdown.code p) s := rfl

theorem exec_enwiper (s : State) :
    exec .enwiper s = exec (.xwrite Command.controlWrite.code wiperWriteEnable) s := rfl

theorem exec_xwrite_wiper (p : Payload) (s : State) :
    exec (.xwrite Command.rdacWrite.code (p.setWidth 16)) s = .next (wroteWiper p s) := by
  rw [exec_xwrite, respondWrite_xwrite_wiper]

/-- A payload above 0x3FF of a writable command is rejected for the payload alone (R141). -/
theorem exec_xwrite_wide {code : Code} {payload : BitVec 16} {s : State} (hwritable : writable s.cfg code = true)
    (hwide : 0x3FF < payload.toNat) : exec (.xwrite code payload) s = .next (turnedAway false true false s) := by
  have hdata : payloadOverflows payload = true := decide_eq_true hwide
  rw [exec_xwrite_rejected (by rw [hdata, Bool.or_true]), hwritable, hdata]
  rfl

/-! ### The composites that read the cache -/

section
variable {s : State}

theorem exec_getset_of_valid (h : s.settingValid = true) :
    exec .getset s = .next (answered (s.setting.setWidth 17) s) := by
  rw [exec, execGetset, stateRejected, h]
  rfl

theorem exec_getres_of_valid (h : s.settingValid = true) : exec .getres s = .next (answered s.resistance s) := by
  rw [exec, execGetres, stateRejected, h]
  rfl

/-- The rejected value is the model's next free one (log entry 4). -/
theorem exec_getset_of_invalid (h : s.settingValid = false) :
    exec .getset s =
      .next { responded { plain with kind := .rejected, value := (Config.freeRaw s.freeValues).setWidth 17,
                                     rejState := true } s with freeValues := s.freeValues + 1 } := by
  rw [exec, execGetset, stateRejected, h]
  rfl

theorem exec_getres_of_invalid (h : s.settingValid = false) :
    exec .getres s =
      .next { responded { plain with kind := .rejected, value := Config.freeOhms s.freeValues,
                                     rejState := true } s with freeValues := s.freeValues + 1 } := by
  rw [exec, execGetres, stateRejected, h]
  rfl

/-- A valid and consistent cache holds the resistance of its setting (R23). -/
theorem resistance_of_cacheOk (hvalid : s.settingValid = true) (hok : cacheOk s = true) :
    s.resistance = toRes s.cfg s.setting := by
  simp only [cacheOk, hvalid, Bool.not_true, Bool.false_or, Bool.and_eq_true, beq_iff_eq] at hok
  exact hok.2

end

/-! ### A neighbouring setting as the operand of SETSET -/

/-- The setting one up or one down, below 0 too, is an i32. -/
theorem toInt_ofInt_neighbour (v : Setting) {delta : Int} (hlow : -1 ≤ delta) (hhigh : delta ≤ 1) :
    (BitVec.ofInt 32 (v.toNat + delta)).toInt = v.toNat + delta := by
  have hv := v.isLt
  exact BitVec.toInt_ofInt_eq_self (by decide) (by omega) (by omega)

/-- R176, R177, R207: with a valid cache a step of the wiper is SETSET of the neighbour. -/
theorem stepSetting_eq_setset {s : State} (hvalid : s.settingValid = true) {delta : Int} (hlow : -1 ≤ delta)
    (hhigh : delta ≤ 1) :
    .next (stepSetting delta s) = exec (.setset (BitVec.ofInt 32 (s.setting.toNat + delta))) s := by
  rw [stepSetting_of_valid delta hvalid, exec_setset, exec_xwrite_wiper, toInt_ofInt_neighbour _ hlow hhigh]

/-! ### BEGIN -/

theorem setSetting_maxValue (s : State) :
    setSetting s.cfg.maxValue s = withCache (BitVec.ofNat 10 s.cfg.maxValue) s := by
  rw [setSetting_eq, clamp_of_max_le s.cfg le_rfl]

/-- The maximum as BEGIN hands it to XWRITE is a ten-bit payload. -/
theorem setWidth_maxValue (cfg : Config) :
    BitVec.ofNat 16 cfg.maxValue = (BitVec.ofNat 10 cfg.maxValue).setWidth 16 := by
  have hmax := maxValue_le cfg
  apply BitVec.eq_of_toNat_eq
  rw [BitVec.toNat_setWidth, BitVec.toNat_ofNat, BitVec.toNat_ofNat]
  omega

theorem beginUnlock_eq (s : State) :
    beginUnlock s =
      (if writeCount s = 0 then .ok 0 else .failed (BitVec.ofNat 4 (writeCount s)),
       afterWrite 0x1C02 (withCache (BitVec.ofNat 10 s.cfg.maxValue) s)) := by
  rw [beginUnlock, setSetting_maxValue, xwrite_plain rfl (by decide)]
  rfl

theorem beginWrite_eq (s : State) :
    beginWrite s =
      xwrite Command.rdacWrite.code ((BitVec.ofNat 10 s.cfg.maxValue).setWidth 16)
        (afterWrite 0x1C02 (withCache (BitVec.ofNat 10 s.cfg.maxValue) s)) := by
  rw [beginWrite, beginUnlock_eq, setWidth_maxValue]

/-- The count of a write is what its phase counted, 0 included. -/
theorem WriteResult.errors_ite (n : Nat) (k : BitVec 3) :
    (if n = 0 then WriteResult.ok k else .failed (BitVec.ofNat 4 n)).errors = BitVec.ofNat 4 n := by
  split
  next h0 => rw [h0]; rfl
  next => rfl

/-- `Ok` or `Failed` by a count that fits `st.acc`, as the vocabulary of the statements has it. -/
theorem Response.counted_eq {n : Nat} (h : n ≤ 8) :
    (if BitVec.ofNat 4 n = 0 then Response.ok 0 else Response.failed (BitVec.ofNat 4 n) 0) =
      { plain with kind := if n = 0 then .ok else .failed, count := BitVec.ofNat 4 n } := by
  by_cases h0 : n = 0
  · rw [h0]
    rfl
  · rw [if_neg (mt (acc_ofNat_eq_zero h).1 h0), if_neg h0]
    rfl

/-- BEGIN's end from two writes whose counts are `n1` and `n2` (R200). -/
theorem beginEnd_eq {n1 n2 : Nat} (hsum : n1 + n2 ≤ 8) {unlock write : WriteResult} {t : State}
    (hunlock : unlock.errors = BitVec.ofNat 4 n1) (hwrite : write.errors = BitVec.ofNat 4 n2) :
    beginEnd unlock (write, t) =
      { responded
          { plain with
            kind := if n1 + n2 = 0 then .ok else .failed
            count := BitVec.ofNat 4 (n1 + n2)
            refreshCount := write.refresh } t with
        acc := BitVec.ofNat 4 (n1 + n2) } := by
  simp only [beginEnd, hunlock, hwrite, ← BitVec.ofNat_add, State.setAcc_acc, Response.counted_eq hsum]
  rfl

theorem beginEnd_eq_begun (s : State) : beginEnd (beginUnlock s).1 (beginWrite s) = begun s := by
  have hunlock : (beginUnlock s).1.errors = BitVec.ofNat 4 (writeCount s) := by
    rw [beginUnlock_eq, WriteResult.errors_ite]
  have hsum (t : State) : writeCount s + writeCount t ≤ 8 :=
    le_trans (Nat.add_le_add (writeCount_le s) (writeCount_le t)) (by decide)
  rw [beginWrite_eq, xwrite_wiper]
  split
  next hclean =>
    rw [beginEnd_eq (hsum _) hunlock (by rw [hclean]; rfl)]
    simp only [begun, if_pos hclean]
    rfl
  next hunclean =>
    rw [beginEnd_eq (hsum _) hunlock rfl]
    simp only [begun, if_neg hunclean]
    rfl

end Sys2Proof.Machine
end

section
/-! PROOFS of spec/45_facade.md: the composite operations and their identities with the core operations (R200 to
R207). -/

namespace Sys2Proof.Machine

open Sys2Proof.Safety

/-- Settles O35: the unlock's result reaches only the sum of the counts, so the RDAC_WRITE follows whatever it was. -/
theorem beginCompletes : Obligations.BeginCompletes := by
  unfold Obligations.BeginCompletes
  intro s
  rw [← beginEnd_eq_begun]
  exact execBegin_eq s

/-- Settles O36: both are an RDAC_WRITE, of the two settings as the value mapper has them. -/
theorem setOperationsWriteWiper : Obligations.SetOperationsWriteWiper := by
  unfold Obligations.SetOperationsWriteWiper
  intro v s
  rw [exec_setset, exec_setres, exec_xwrite_wiper, exec_xwrite_wiper, clamp_eq_bounded, fromRes_eq_settingOf]
  exact ⟨rfl, rfl⟩

/-- Settles O38: both are an XWRITE of a command that carries its payload; ENWIPER's payload always fits. -/
theorem shutdnAndEnwiperWriteFrames : Obligations.ShutdnAndEnwiperWriteFrames := by
  unfold Obligations.ShutdnAndEnwiperWriteFrames
  intro p s
  rw [exec_shutdn, exec_enwiper]
  refine ⟨fun hfits => ?_, fun hwide => exec_xwrite_wide rfl hwide, ?_⟩
  · obtain ⟨-, -, -, -, hshutdown, -⟩ := xwriteCompletes p s hfits
    exact hshutdown
  · obtain ⟨-, -, -, hcontrol, -, -⟩ := xwriteCompletes wiperWriteEnable s (by decide)
    exact hcontrol

/-- Settles O39: the neighbour of a setting is an i32, so INC and DEC are SETSET of it; GETRES answers the cached
resistance, which is that of the cached setting; the others are defined as the XWRITE of their row. -/
theorem compositesEqualCoreOperations : Obligations.CompositesEqualCoreOperations := by
  unfold Obligations.CompositesEqualCoreOperations
  intro v p s
  refine ⟨exec_setset v s, exec_setres v s, fun hvalid => ⟨?_, ?_⟩, exec_enwiper s, exec_shutdn p s,
    fun hvalid hok => ?_⟩
  · exact stepSetting_eq_setset hvalid (delta := 1) (by decide) (by decide)
  · exact stepSetting_eq_setset hvalid (delta := -1) (by decide) (by decide)
  · rw [exec_getres_of_valid hvalid, exec_tores, resistance_of_cacheOk hvalid hok]

/-- Settles O37: the valid bit alone decides whether the cache answers. -/
theorem getOperationsAnswerCache : Obligations.GetOperationsAnswerCache := by
  unfold Obligations.GetOperationsAnswerCache
  intro s
  constructor
  · intro hvalid
    exact ⟨exec_getset_of_valid hvalid, exec_getres_of_valid hvalid⟩
  · intro hinvalid
    exact ⟨_, _, exec_getset_of_invalid hinvalid, exec_getres_of_invalid hinvalid⟩

end Sys2Proof.Machine
end

section
/-! SUPPORT. What an operation leaves behind by the kind of its answer (R229), and the largest counts (R228): said once
for XWRITE and XREAD, then for the operations made of them. -/

namespace Sys2Proof.Machine

open Sys2Proof.Safety

/-! ### The ends of XWRITE and XREAD -/

/-- How XWRITE from `s` can end: rejected before the bus, failed after its write phase, or `Ok` (R140, R141, R152). -/
inductive WriteEnd (s : State) : WriteResult × State → Prop where
  | rejected (rejCmd rejData : Bool) : WriteEnd s (.rejected rejCmd rejData, s)
  | failed (f : FrameWord) {n : BitVec 4} (hn : n.toNat ≤ 3) : WriteEnd s (.failed n, afterWrite f s)
  | ok {k : BitVec 3} (t : State) (hk : k.toNat ≤ 5) : WriteEnd s (.ok k, t)

/-- How XREAD from `s` can end (R148, R149). -/
inductive ReadEnd (s : State) : ReadResult × State → Prop where
  | rejected (rejCmd rejData : Bool) : ReadEnd s (.rejected rejCmd rejData, s)
  | failed {n : BitVec 4} (t : State) (hn : n.toNat ≤ 5) : ReadEnd s (.failed n, t)
  | ok (d : BitVec 16) (t : State) : ReadEnd s (.ok d, t)

theorem toNat_ofNat_le {w n m : Nat} (h : n ≤ m) : (BitVec.ofNat w n).toNat ≤ m := by
  rw [BitVec.toNat_ofNat]
  exact le_trans (Nat.mod_le _ _) h

section
variable (code : Code) (payload : BitVec 16) (s : State)

theorem xwrite_end : WriteEnd s (xwrite code payload s) := by
  by_cases hrej : (!writable s.cfg code || payloadOverflows payload) = true
  · rw [xwrite_rejected hrej]
    exact .rejected _ _
  · by_cases hcode : code = Command.rdacWrite.code
    · obtain ⟨p, rfl⟩ := payload_of_fits (admitted_of_not_rejected hrej).2
      rw [hcode, xwrite_wiper]
      split
      · exact .ok _ (toNat_ofNat_le (readCount_le _))
      · exact .failed _ (toNat_ofNat_le (writeCount_le s))
    · rw [xwrite_plain (Bool.eq_false_of_not_eq_true hrej) hcode]
      split
      · exact .ok _ (by decide)
      · exact .failed _ (toNat_ofNat_le (writeCount_le s))

theorem xread_end : ReadEnd s (xread code payload s) := by
  by_cases hrej : (!readable code || readDataRejected code payload) = true
  · rw [xread_rejected hrej]
    exact .rejected _ _
  · rw [xread_admitted (Bool.eq_false_of_not_eq_true hrej)]
    split
    · exact .ok _ _
    · exact .failed _ (toNat_ofNat_le (readCount_le s))

end

/-! ### A rejection -/

/-- `t` is `s` with the response `r`; the count of unstated values may have moved (log entry 4). -/
def OnlyAnswers (s t : State) (r : Response) : Prop := t = { s with rsp := some r, freeValues := t.freeValues }

section
variable {s : State} {r : Response}

theorem WriteEnd.onlyAnswers {e : WriteResult × State} (h : WriteEnd s e) (hrsp : (respondWrite e).rsp = some r)
    (hkind : r.kind = .rejected) : OnlyAnswers s (respondWrite e) r := by
  cases h with
  | rejected => cases hrsp; rfl
  | failed => cases hrsp; cases hkind
  | ok => cases hrsp; cases hkind

theorem ReadEnd.onlyAnswers {e : ReadResult × State} (h : ReadEnd s e) (hrsp : (respondRead e).rsp = some r)
    (hkind : r.kind = .rejected) : OnlyAnswers s (respondRead e) r := by
  cases h with
  | rejected => cases hrsp; rfl
  | failed => cases hrsp; cases hkind
  | ok => cases hrsp; cases hkind

/-- VERIFY and BEGIN answer `Ok` or `Failed` by their total. -/
theorem counted_kind_ne_rejected {c : Prop} [Decidable c] : (if c then Kind.ok else Kind.failed) ≠ .rejected := by
  split <;> decide

theorem verified_not_rejected {control : BitVec 8} (hrsp : (verified control s).rsp = some r) :
    r.kind ≠ .rejected := by
  cases hrsp
  exact counted_kind_ne_rejected

theorem begun_not_rejected (hrsp : (begun s).rsp = some r) : r.kind ≠ .rejected := by
  cases hrsp
  exact counted_kind_ne_rejected

/-- Every plan that can be rejected is rejected before it changes anything. -/
theorem Plan.run_rejected {p : Plan} {t : State} (h : p.run s = .next t) (hrsp : t.rsp = some r)
    (hkind : r.kind = .rejected) : OnlyAnswers s t r := by
  cases p with
  | answer r' => cases h; cases hrsp; rfl
  | unstated r' => cases h; cases hrsp; rfl
  | write code payload => cases h; exact (xwrite_end code payload s).onlyAnswers hrsp hkind
  | read code payload => cases h; exact (xread_end code payload s).onlyAnswers hrsp hkind
  | verify control =>
    cases (verifyCompletes control s).symm.trans h
    exact absurd hkind (verified_not_rejected hrsp)
  | begin =>
    cases (beginCompletes s).symm.trans h
    exact absurd hkind (begun_not_rejected hrsp)

end

/-! ### A failed write of the wiper -/

/-- If `t` answers `Failed`, it holds the cache of `s`. -/
def FailureKeepsCache (s t : State) : Prop := ∀ r, t.rsp = some r → r.kind = .failed → SameCache s t

section
variable {s : State}

theorem WriteEnd.failureKeepsCache {e : WriteResult × State} (h : WriteEnd s e) :
    FailureKeepsCache s (respondWrite e) := by
  intro r hrsp hkind
  cases h with
  | rejected => exact ⟨rfl, rfl, rfl⟩
  | failed => exact ⟨rfl, rfl, rfl⟩
  | ok => cases hrsp; cases hkind

theorem stepSetting_failureKeepsCache (delta : Int) : FailureKeepsCache s (stepSetting delta s) := by
  unfold stepSetting
  split
  · exact fun _ _ _ => ⟨rfl, rfl, rfl⟩
  · exact (xwrite_end _ _ s).failureKeepsCache

end

/-- But for BEGIN, an operation that writes the wiper is one XWRITE, or a rejection by the cache in place of it. -/
theorem exec_failureKeepsCache {i : Instr} (hwiper : writesWiper i = true) (hbegin : i ≠ .beginOp) (s : State) :
    ∃ t, exec i s = .next t ∧ FailureKeepsCache s t := by
  cases i with
  | rdacWrite | xwrite | setset | setres => exact ⟨_, rfl, (xwrite_end _ _ s).failureKeepsCache⟩
  | inc | dec => exact ⟨_, rfl, stepSetting_failureKeepsCache _⟩
  | beginOp => exact absurd rfl hbegin
  | _ => cases hwiper

/-! ### The largest counts -/

/-- The count of a response is at most `n`, its `refresh_count` at most 5 (R228). -/
def Response.Within (n : Nat) (r : Response) : Prop := r.count.toNat ≤ n ∧ r.refreshCount.toNat ≤ 5

/-- The state carries such a response. -/
def AnswersWithin (n : Nat) (t : State) : Prop := ∃ r : Response, t.rsp = some r ∧ r.Within n

section
variable {s : State}

/-- A response that counts nothing. -/
theorem Response.Within.of_zero {n : Nat} {r : Response} (hcount : r.count = 0) (hrefresh : r.refreshCount = 0) :
    r.Within n := by
  simp [Response.Within, hcount, hrefresh]

theorem WriteEnd.answersWithin {e : WriteResult × State} (h : WriteEnd s e) : AnswersWithin 3 (respondWrite e) := by
  cases h with
  | rejected => exact ⟨_, rfl, .of_zero rfl rfl⟩
  | failed f hn => exact ⟨_, rfl, hn, Nat.zero_le 5⟩
  | ok t hk => exact ⟨_, rfl, Nat.zero_le 3, hk⟩

theorem ReadEnd.answersWithin {e : ReadResult × State} (h : ReadEnd s e) : AnswersWithin 5 (respondRead e) := by
  cases h with
  | rejected => exact ⟨_, rfl, .of_zero rfl rfl⟩
  | failed t hn => exact ⟨_, rfl, hn, Nat.zero_le 5⟩
  | ok d t => exact ⟨_, rfl, .of_zero rfl rfl⟩

theorem stepSetting_answersWithin (delta : Int) : AnswersWithin 3 (stepSetting delta s) := by
  unfold stepSetting
  split
  · exact ⟨_, rfl, .of_zero rfl rfl⟩
  · exact (xwrite_end _ _ s).answersWithin

theorem execEncode_answersWithin (cmd : Code) (payload : BitVec 16) :
    ∃ t, execEncode cmd payload s = .next t ∧ AnswersWithin 0 t := by
  refine ⟨_, rfl, _, rfl, ?_⟩
  split <;> exact .of_zero rfl rfl

/-- The mismatch unit is counted only after a clean read, so the total is at most 3 and 5. -/
theorem verified_answersWithin (control : BitVec 8) : AnswersWithin 8 (verified control s) := by
  refine ⟨_, rfl, toNat_ofNat_le ?_, Nat.zero_le 5⟩
  have htotal := verifyTotal_le control s (afterWrite (verifyFrame control) s)
  rw [txnResult_errors, txnResult_mismatch, verifyFrame_eq] at htotal
  exact htotal

theorem begun_answersWithin : AnswersWithin 6 (begun s) := by
  refine ⟨_, rfl, toNat_ofNat_le (Nat.add_le_add (writeCount_le _) (writeCount_le _)), ?_⟩
  dsimp only
  split
  · exact toNat_ofNat_le (readCount_le _)
  · exact Nat.zero_le 5

end

theorem exec_answersWithin (i : Instr) (s : State) : ∃ t, exec i s = .next t ∧ AnswersWithin (maxCount i) t := by
  cases i with
  | rdacRead | tpWiperRead | tpLastUsed | controlRead | xread => exact ⟨_, rfl, (xread_end _ _ s).answersWithin⟩
  | nop | rdacWrite | tpWrite | rdacRefresh | controlWrite | shutdown | xwrite | setset | setres | shutdn | enwiper =>
    exact ⟨_, rfl, (xwrite_end _ _ s).answersWithin⟩
  | inc | dec => exact ⟨_, rfl, stepSetting_answersWithin _⟩
  | verify control => exact ⟨_, verifyCompletes control s, verified_answersWithin control⟩
  | beginOp => exact ⟨_, beginCompletes s, begun_answersWithin⟩
  | encode cmd payload => exact execEncode_answersWithin cmd payload
  | decode | clamp | tores | fromres => exact ⟨_, rfl, _, rfl, .of_zero rfl rfl⟩
  | getset | getres =>
    refine ⟨_, rfl, ?_⟩
    split <;> exact ⟨_, rfl, .of_zero rfl rfl⟩

end Sys2Proof.Machine
end

section
/-! PROOFS of spec/60_exceptions.md: every operation answers, what an error leaves behind, and the largest counts (R220,
R228, R229, R234). -/

namespace Sys2Proof.Machine

open Sys2Proof.Safety

/-- Settles O40: the response that every instruction gives. -/
theorem everyInstructionResponds : Obligations.EveryInstructionResponds := by
  unfold Obligations.EveryInstructionResponds
  intro i s
  obtain ⟨t, hexec, r, hrsp, -⟩ := exec_responds i s
  exact ⟨t, r, hexec, hrsp⟩

/-- Settles O50: a rejection comes before the first change, whichever way the instruction is carried out. -/
theorem rejectionChangesNoState : Obligations.RejectionChangesNoState := by
  unfold Obligations.RejectionChangesNoState
  intro i s t r hexec hrsp hkind
  obtain ⟨p, hp⟩ := exec_carriedOut i s
  exact Plan.run_rejected (hp.exec_eq ▸ hexec) hrsp hkind

/-- Settles O51: but for BEGIN, a wiper write that fails ends with its write phase, before the cache is written. -/
theorem failedWiperWriteKeepsCache : Obligations.FailedWiperWriteKeepsCache := by
  unfold Obligations.FailedWiperWriteKeepsCache
  intro i s t r hexec hrsp hkind hwiper hbegin
  obtain ⟨t', hexec', hkeeps⟩ := exec_failureKeepsCache hwiper hbegin s
  obtain rfl : t' = t := Host.Outcome.next.inj (hexec'.symm.trans hexec)
  exact hkeeps r hrsp hkind

/-- Settles O54: the one response an instruction gives is within its bounds. -/
theorem countsAreBounded : Obligations.CountsAreBounded := by
  unfold Obligations.CountsAreBounded
  intro i s t r hexec hrsp
  obtain ⟨t', hexec', r', hrsp', hwithin⟩ := exec_answersWithin i s
  obtain rfl : t' = t := Host.Outcome.next.inj (hexec'.symm.trans hexec)
  obtain rfl : r' = r := Option.some.inj (hrsp'.symm.trans hrsp)
  exact hwithin

end Sys2Proof.Machine
end

section
/-! SUPPORT. How many transport calls lead from one state to another (R266), said once for a write phase, a read
transaction, XWRITE and XREAD, and then for every instruction. -/

namespace Sys2Proof.Machine

open Sys2Proof.Safety

/-! ### Counting calls -/

/-- A write phase is the four calls of R143, whatever they answer (R151). -/
theorem length_writeEvents (cfg : Config) (f : FrameWord) (w : WriteAnswers) : (writeEvents cfg f w).length = 4 := rfl

/-- A read phase is one request and a read for each byte that came, at most two (R146, R147). -/
theorem length_readEvents_le (cfg : Config) (r : ReadAnswers) : (readEvents cfg r).length ≤ 3 := by
  cases r <;> simp [readEvents]

/-- At most `n` calls lead from `s` to `t`. -/
def CallsWithin (n : Nat) (s t : State) : Prop := t.trace.length ≤ s.trace.length + n

section
variable {s t u : State} {n m : Nat}

theorem CallsWithin.of_trace_eq (h : t.trace = s.trace) : CallsWithin n s t :=
  (congrArg List.length h).trans_le (Nat.le_add_right _ n)

theorem CallsWithin.of_trace_append {calls : List Event} (h : t.trace = s.trace ++ calls)
    (hlen : calls.length ≤ n) : CallsWithin n s t := by
  rw [CallsWithin, h, List.length_append]
  exact Nat.add_le_add_left hlen _

theorem CallsWithin.mono (h : CallsWithin n s t) (hle : n ≤ m) : CallsWithin m s t :=
  h.trans (Nat.add_le_add_left hle _)

theorem CallsWithin.trans (h : CallsWithin n s t) (h' : CallsWithin m t u) : CallsWithin (n + m) s u := by
  unfold CallsWithin at *
  omega

/-- What makes no call leaves the count as it is. -/
theorem CallsWithin.quiet (h : CallsWithin n s t) (hquiet : u.trace = t.trace) : CallsWithin n s u :=
  (congrArg List.length hquiet).trans_le h

end

/-! ### Calls of the shared operations -/

theorem afterWrite_callsWithin (f : FrameWord) (s : State) : CallsWithin 4 s (afterWrite f s) :=
  .of_trace_append rfl (length_writeEvents s.cfg f _).le

theorem afterRead_callsWithin (f : FrameWord) (s : State) : CallsWithin 7 s (afterRead f s) := by
  refine .of_trace_append rfl ?_
  rw [List.length_append, length_writeEvents]
  exact Nat.add_le_add_left (length_readEvents_le _ _) 4

theorem refreshed_callsWithin (p : Payload) (s : State) : CallsWithin 7 s (refreshed p s) := by
  have hread : CallsWithin 7 s (afterRead 0x0800 (withCache (capped s.cfg p.toNat) s)) :=
    afterRead_callsWithin 0x0800 _
  unfold refreshed
  simp only
  split <;> exact hread

/-- RDAC_WRITE: the write phase, and the follow-up read when that was clean (R152). -/
theorem xwrite_wiper_callsWithin (p : Payload) (s : State) :
    CallsWithin 11 s (xwrite Command.rdacWrite.code (p.setWidth 16) s).2 := by
  have hwrite := afterWrite_callsWithin (0x0400 ||| p.setWidth 16) s
  rw [xwrite_wiper]
  split
  · exact hwrite.trans (refreshed_callsWithin p _)
  · exact hwrite.mono (by decide)

/-- Each command that XWRITE can send may make the four calls of its write phase. -/
theorem maxWriteCalls_of_not_read {c : Command} (hdir : direction c ≠ .read) : 4 ≤ maxWriteCalls c.code := by
  cases c with
  | rdacRead | tpWiperRead | tpLastUsed | controlRead => exact absurd rfl hdir
  | nop | rdacWrite | tpWrite | rdacRefresh | controlWrite | shutdown => decide

theorem maxReadCalls_of_read {c : Command} (hdir : direction c = .read) : maxReadCalls c.code = 7 := by
  cases c with
  | rdacRead | tpWiperRead | tpLastUsed | controlRead => rfl
  | nop | rdacWrite | tpWrite | rdacRefresh | controlWrite | shutdown => cases hdir

section
variable (code : Code) (payload : BitVec 16) (s : State)

/-- The three ends of XWRITE: rejected (R141), an RDAC_WRITE with its refresh (R152), or one write phase (R140). -/
theorem xwrite_callsWithin : CallsWithin (maxWriteCalls code) s (xwrite code payload s).2 := by
  by_cases hrej : (!writable s.cfg code || payloadOverflows payload) = true
  · rw [xwrite_rejected hrej]
    exact .of_trace_eq rfl
  · obtain ⟨hwritable, hfits⟩ := admitted_of_not_rejected hrej
    by_cases hcode : code = Command.rdacWrite.code
    · obtain ⟨p, rfl⟩ := payload_of_fits hfits
      rw [hcode]
      exact xwrite_wiper_callsWithin p s
    · obtain ⟨c, rfl, hdir, -⟩ := writable_command hwritable
      rw [xwrite_plain (Bool.eq_false_of_not_eq_true hrej) hcode]
      exact (afterWrite_callsWithin _ s).mono (maxWriteCalls_of_not_read hdir)

/-- The two ends of XREAD: rejected (R149), or one read transaction (R155). -/
theorem xread_callsWithin : CallsWithin (maxReadCalls code) s (xread code payload s).2 := by
  by_cases hrej : (!readable code || readDataRejected code payload) = true
  · rw [xread_rejected hrej]
    exact .of_trace_eq rfl
  · obtain ⟨c, rfl, hdir⟩ := readable_command (admitted_of_not_rejected hrej).1
    rw [xread_admitted (Bool.eq_false_of_not_eq_true hrej), maxReadCalls_of_read hdir]
    exact afterRead_callsWithin _ s

theorem respondWrite_callsWithin : CallsWithin (maxWriteCalls code) s (respondWrite (xwrite code payload s)) :=
  (xwrite_callsWithin code payload s).quiet rfl

theorem respondRead_callsWithin : CallsWithin (maxReadCalls code) s (respondRead (xread code payload s)) :=
  (xread_callsWithin code payload s).quiet (respondRead_trace _)

end

/-! ### Calls of every instruction -/

theorem stepSetting_callsWithin (delta : Int) (s : State) : CallsWithin 11 s (stepSetting delta s) := by
  unfold stepSetting
  split
  · exact .of_trace_eq rfl
  · exact respondWrite_callsWithin Command.rdacWrite.code _ s

/-- VERIFY: a write phase, then a read transaction whatever the write gave (R190, R193). -/
theorem verifyEnd_callsWithin (control : BitVec 8) (s : State) : CallsWithin 11 s (verifyEnd control s) := by
  have hbus : CallsWithin 11 s (afterRead verifyReadFrame (afterWrite (verifyFrame control) s)) :=
    (afterWrite_callsWithin _ s).trans (afterRead_callsWithin _ _)
  exact hbus.quiet rfl

/-- BEGIN: the unlock, then the RDAC_WRITE whatever the unlock gave (R200). -/
theorem beginEnd_callsWithin (s : State) :
    CallsWithin 15 s (beginEnd (beginUnlock s).1 (beginWrite s)) := by
  have hunlock : CallsWithin 4 s (beginUnlock s).2 :=
    xwrite_callsWithin Command.controlWrite.code wiperWriteEnable (setSetting s.cfg.maxValue s)
  have hwrite : CallsWithin 11 (beginUnlock s).2 (beginWrite s).2 :=
    xwrite_callsWithin Command.rdacWrite.code _ _
  exact (hunlock.trans hwrite).quiet rfl

theorem exec_callsWithin (i : Instr) (s : State) : ∃ t, exec i s = .next t ∧ CallsWithin (maxCalls i) s t := by
  cases i with
  | nop | rdacWrite | tpWrite | rdacRefresh | controlWrite | shutdown | xwrite | setset | setres | shutdn | enwiper =>
    exact ⟨_, rfl, respondWrite_callsWithin _ _ s⟩
  | rdacRead | tpWiperRead | tpLastUsed | controlRead | xread => exact ⟨_, rfl, respondRead_callsWithin _ _ s⟩
  | inc | dec => exact ⟨_, rfl, stepSetting_callsWithin _ s⟩
  | verify control => exact ⟨_, execVerify_eq control s, verifyEnd_callsWithin control s⟩
  | beginOp => exact ⟨_, execBegin_eq s, beginEnd_callsWithin s⟩
  | encode | decode | clamp | tores | fromres => exact ⟨_, rfl, .of_trace_eq rfl⟩
  | getset | getres =>
    refine ⟨_, rfl, .of_trace_eq ?_⟩
    split <;> rfl

end Sys2Proof.Machine
end

section
/-! PROOFS of spec/70_reset_and_hazards.md: the transport calls of an operation (R266). -/

namespace Sys2Proof.Machine

open Sys2Proof.Safety

/-- Settles O55: an instruction makes the calls of its write phases and read transactions, each within its bound. -/
theorem transportCallsAreBounded : Obligations.TransportCallsAreBounded := by
  unfold Obligations.TransportCallsAreBounded
  intro i s t hexec
  obtain ⟨t', hexec', hcalls⟩ := exec_callsWithin i s
  obtain rfl : t' = t := Host.Outcome.next.inj (hexec'.symm.trans hexec)
  exact hcalls

end Sys2Proof.Machine
end
